-- ==== Sys2Proof/Word.lean ====
section
/-! DEFINITION. The word types of the MW48 (00_scope, "Memory seen by the part" and "Words and lanes"). -/

namespace Sys2Proof

/-- A 32-bit memory word. -/
abbrev Word := BitVec 32

/-- One lane of a word. -/
abbrev Byte := BitVec 8

/-- Which of the four lanes of a word are written: bit k for lane k, lane k being bits 8k+7..8k. -/
abbrev Lanes := BitVec 4

/-- A 24-bit byte address. -/
abbrev Addr := BitVec 24

end Sys2Proof
end

