-- ==== Sys2Proof/Syntax.lean ====
section
/-! DEFINITION. The commands of the block: one constructor per row of spec/opcode_table.json. -/

namespace Sys2Proof

/-- One word of a controller write: its data and the set of its lanes that are written (9.1). -/
structure WriteWord where
  data : Word
  lanes : Lanes
  deriving DecidableEq, Repr

/-- A controller write burst: start address and one `WriteWord` per word, in ascending address order (9.1). -/
structure WriteBurst where
  addr : Addr
  words : List WriteWord
  deriving DecidableEq, Repr

/-- A controller read burst: start address and length in words (9.1). -/
structure ReadBurst where
  addr : Addr
  len : Nat
  deriving DecidableEq, Repr

/-- A controller transaction as it stands at the controller port. -/
inductive Txn where
  | write (t : WriteBurst)
  | read (t : ReadBurst)
  deriving DecidableEq, Repr

/-- Who has entries to place in the outbound queue (R134). The entries of step 4 of a close are the report writer's
(R126). -/
inductive Producer where
  | reportWriter
  | mailbox
  | contextTable
  | channelEvaluator
  | planLoader
  deriving DecidableEq, Repr

/-- The commands. -/
inductive Instr where
  /-- RESET_ASSERTED (R139); `performing`: the port is performing the oldest outbound entry at that moment (entry 6). -/
  | resetAsserted (performing : Bool)
  /-- RESET_RELEASED (R145), with the levels of ANCHOR1 and ANCHOR0 (R144), true for high. -/
  | resetReleased (anchor1 anchor0 : Bool)
  /-- CONTROLLER_WRITE (R131). -/
  | controllerWrite (t : WriteBurst)
  /-- CONTROLLER_READ (R136). -/
  | controllerRead (t : ReadBurst)
  /-- PRESS_STATE_WORD (R1). -/
  | pressStateWord (t : WriteBurst)
  /-- WINDOW_LIMIT_EXPIRY (R10). -/
  | windowLimitExpiry
  /-- CAPTURE_RING_WRITE (R22). -/
  | captureRingWrite (t : WriteBurst)
  /-- SILENCE_EXPIRY (R30) of capture window `w`. -/
  | silenceExpiry (w : Fin 4)
  /-- FRAME_TAKEN (R29). -/
  | frameTaken
  /-- CHANNEL_CLOSE (R44). -/
  | channelClose
  /-- PUBLISH (R124). -/
  | publish
  /-- WAITING_WORK_RELEASED (R15). -/
  | waitingWorkReleased
  /-- MARK_PULSE_EXPIRY (R118). -/
  | markPulseExpiry
  /-- NOTICE_CONSUMER_WRITE (R129). -/
  | noticeConsumerWrite (t : WriteBurst)
  /-- MAILBOX_WORD_WRITE (R140). -/
  | mailboxWordWrite (t : WriteBurst)
  /-- RELEASE_CAVITY (R94): the owner's step for request 01h, whose arguments the mailbox holds. -/
  | releaseCavity
  /-- EXCLUDE_CAVITY (R95), request 02h. -/
  | excludeCavity
  /-- INCLUDE_CAVITY (R96), request 03h. -/
  | includeCavity
  /-- SET_PATH_ENABLES (R71), request 04h. -/
  | setPathEnables
  /-- ACKNOWLEDGE_STOP (R113), request 05h. -/
  | acknowledgeStop
  /-- SAVE_CONTEXT (R101), request 06h. -/
  | saveContext
  /-- RESTORE_CONTEXT (R105), request 07h. -/
  | restoreContext
  /-- RELOAD_PLAN (R151), request 08h. -/
  | reloadPlan
  /-- SET_OVERLAY (R133), request 09h. -/
  | setOverlay
  /-- DUMP_CHANNELS (R53), request 0Ah. -/
  | dumpChannels
  /-- POST_PERFORMED (R137). -/
  | postPerformed
  /-- FETCH_PERFORMED (R137). -/
  | fetchPerformed
  /-- QUEUE_ROOM_PLACEMENT (R134) by producer `p`. -/
  | queueRoomPlacement (p : Producer)
  /-- RETRY_TIMER_EXPIRY (R150). -/
  | retryTimerExpiry
  /-- LINE_TICK (R155). -/
  | lineTick
  /-- FRAME_FINISHED (R29). -/
  | frameFinished
  deriving DecidableEq, Repr

end Sys2Proof
end

