-- ==== Sys2Proof/Decode.lean ====
section
/-! DEFINITION. Decoding. spec/opcode_table.json gives no row any bits ("fields": [] and no "fixed"): the commands
of this block are transactions, pins and steps of the part, not encoded words. No word spells a command. -/

namespace Sys2Proof

/-- The command that the `nbits` low bits of `w` spell: none, since the table gives no row any bits. -/
def decodeTableWord (_nbits _w : Nat) : Option Instr := none

end Sys2Proof
end

