-- ==== Sys2Proof/Config.lean ====
section
/-! DEFINITION. The constants the manual fixes for the part ("Numbers at a glance" and the rules named below). -/

namespace Sys2Proof.Config

/-- Memory is 16 MiB: byte addresses lie below 1000000h. -/
def memoryBytes : Nat := 0x1000000

/-- What a byte of memory that nothing has written reads as. DESIGN CHOICE (entry 1), unsafe: the spec says
nothing of the memory's contents after power-on. -/
def unwritten : Byte := 0

/-- The outbound queue never holds more than 32 entries (R134). -/
def queueCapacity : Nat := 32

/-- The turn count at which the oldest outbound entry goes next (R138). -/
def turnLimit : Nat := 4

/-- The mark queue holds up to 8 entries (R115). -/
def markCapacity : Nat := 8

/-- The plan retry interval in ticks (R150). -/
def retryTicks : Nat := 2000

/-- The distance between two anchor bases (R144). -/
def anchorStride : Nat := 0x400000

/-- The anchor region runs from anchor + 0000h to anchor + 23FFh (R144). -/
def anchorBytes : Nat := 0x2400

/-- Offset of the mailbox status word (11.2). -/
def statusOffset : Nat := 0x0000

/-- Offset of the notice producer word (11.2). -/
def producerOffset : Nat := 0x0040

/-- Offset of the notice overflow word (11.2). -/
def overflowOffset : Nat := 0x0044

/-- Offset of the notice consumer word (11.2). -/
def consumerOffset : Nat := 0x0048

/-- Offset of the verdict window (11.2). -/
def verdictOffset : Nat := 0x0100

/-- Offset of the plan area (11.2). -/
def planOffset : Nat := 0x0400

/-- Words in a verdict bank (R120). -/
def bankWords : Nat := 61

/-- The terminator of a request (9.7). -/
def terminator : Word := 0xFFFFFFFF

/-- Identifier of a plan, ASCII GLJP (R146). -/
def planIdentifier : Word := 0x474C4A50

/-- Identifier of a context image, ASCII GLJC (R100). -/
def imageIdentifier : Word := 0x474C4A43

/-- Sync tag of a frame header (R21). -/
def syncTag : Nat := 0xA6

end Sys2Proof.Config
end

