-- ==== Sys2Proof/Machine/State.lean ====
section
/-! DEFINITION. The state of the MW48 as plain data: everything INVENTORY.md lists, and its value after reset. -/

namespace Sys2Proof.Machine

/-! ## Codes (11.1) -/

/-- Run states of the plan loader (R145). -/
inductive RunState where
  | loading
  | noPlan
  | running
  deriving DecidableEq, Repr

/-- Plan fault reasons (R147). -/
inductive PlanFault where
  | none
  | id
  | length
  | window
  | channel
  | profile
  | cavity
  | ring
  | address
  deriving DecidableEq, Repr

/-- Tracker states (1.3). `opened` is the manual's OPEN. -/
inductive TrackerState where
  | noMould
  | armed
  | opened
  | closing
  deriving DecidableEq, Repr

/-- Phases of the press state word (1.1). -/
inductive Phase where
  | idle
  | fill
  | vibrate
  | demould
  | stopped
  deriving DecidableEq, Repr

/-- Reasons of an abandon (R11). -/
inductive AbandonReason where
  | mouldChange
  | pressStopped
  | overlong
  | planReload
  deriving DecidableEq, Repr

/-- Kinds of a capture fault (R33). -/
inductive CaptureFault where
  | overrun
  | silent
  | format
  deriving DecidableEq, Repr

/-- Channel kinds (3.1). -/
inductive ChannelKind where
  | vib
  | ae
  | both
  deriving DecidableEq, Repr

/-- Sample packings (2.1). -/
inductive Packing where
  | pair16
  | solo24
  deriving DecidableEq, Repr

/-- Half orders of PAIR16 (R17). -/
inductive HalfOrder where
  | firstLow
  | firstHigh
  deriving DecidableEq, Repr

/-- Channel outcomes of a close (R45). -/
inductive Outcome where
  | good
  | silent
  | few
  | clipped
  | flat
  deriving DecidableEq, Repr

/-- Cavity states (5.7). -/
inductive CavState where
  | learning
  | sound
  | watch
  | suspect
  | cracked
  | excluded
  deriving DecidableEq, Repr

/-- Record modes (8.3). -/
inductive RecordMode where
  | none
  | every
  | onChange
  deriving DecidableEq, Repr

/-- Record formats (8.3). -/
inductive RecordFormat where
  | short
  | long
  deriving DecidableEq, Repr

/-- Notice kinds (8.4). -/
inductive NoticeKind where
  | cavityState
  | blindChange
  | channelLost
  | channelBack
  | bindingLost
  | windowAbandoned
  | mouldUnknown
  | activeProfile
  | captureFault
  | requestDone
  | planLoaded
  | markQueueFull
  deriving DecidableEq, Repr

/-- Request functions (9.7). -/
inductive Fn where
  | releaseCavity
  | excludeCavity
  | includeCavity
  | setPathEnables
  | acknowledgeStop
  | saveContext
  | restoreContext
  | reloadPlan
  | setOverlay
  | dumpChannels
  deriving DecidableEq, Repr

/-- Request results (R142). -/
inductive Result where
  | ok
  | unknownFunction
  | argumentCount
  | argumentRange
  | wrongState
  | imageMismatch
  | badImage
  | malformed
  | noPlan
  | planRejected
  deriving DecidableEq, Repr

/-- Kinds of a snapshot (R102). -/
inductive SnapshotKind where
  | atOnce
  | atPublish
  | atAbandon
  deriving DecidableEq, Repr

/-! ## The plan (11.9) -/

/-- One capture window (2.1): ring base, F frames, S scans, packing, half order and channel list. -/
structure WindowPlan where
  base : Nat
  frames : Nat
  scans : Nat
  packing : Packing
  half : HalfOrder
  chans : List Nat
  deriving DecidableEq, Repr

/-- One channel with its evaluation parameters (3.1). -/
structure ChannelPlan where
  number : Nat
  kind : ChannelKind
  nmin : Nat
  clipLimit : Nat
  th : Nat
  hdt : Nat
  hlt : Nat
  dmin : Nat
  deriving DecidableEq, Repr

/-- One entry of a cavity table (4.1). `slotChans` holds the channel of slots 0..3. -/
structure CavityPlan where
  group : Nat
  installed : BitVec 4
  enables : BitVec 4
  startsExcluded : Bool
  slotChans : List Nat
  longAddr : Nat
  deriving DecidableEq, Repr

/-- One mould profile (5.1, 7.1, 8.3); the cavity count C is the length of `cavities`. `delay` is D. -/
structure ProfilePlan where
  mouldId : Nat
  groups : Nat
  confirmations : Nat
  layoutSerial : Nat
  xd : Nat
  t1 : Nat
  t2 : Nat
  t3 : Nat
  h : Nat
  hitWeight : Nat
  d : Nat
  w : Nat
  delay : Nat
  recordMode : RecordMode
  recordFormat : RecordFormat
  stopAction : Bool
  markOnCrack : Bool
  markOnSuspect : Bool
  recordOrigin : Nat
  cavities : List CavityPlan
  deriving DecidableEq, Repr

/-- The plan as every block consults it (R149). `pulseW` and `pulseP` are W and P; `ringSize` is E. -/
structure Plan where
  serial : Nat
  stopHigh : Bool
  stateWordAddr : Nat
  windowLimit : Nat
  silenceLimit : Nat
  pulseW : Nat
  pulseP : Nat
  ringBase : Nat
  ringSize : Nat
  kindMask : Word
  windows : List WindowPlan
  channels : List ChannelPlan
  profiles : List ProfilePlan
  deriving DecidableEq, Repr

/-! ## Memory path and outbound queue (chapter 9) -/

/-- Where the word of a FETCH goes (R137); `dropped` for a FETCH of a discarded load (R151). -/
inductive Dest where
  | planLoader
  | contextTable
  | dropped
  deriving DecidableEq, Repr

/-- An entry of the outbound queue (R134); `overwritten` is the set of lanes overwritten since placement (R135). -/
inductive Entry where
  | post (addr : Nat) (word : Word) (overwritten : Lanes)
  | fetch (addr : Nat) (dest : Dest)
  deriving DecidableEq, Repr

/-- Read data returned at the controller port. -/
structure Reply where
  addr : Addr
  data : List Word
  deriving DecidableEq, Repr

/-- Overlay, arbiter and outbound queue (R133, R134, R138), transactions held at the port (R131), and the read
data returned so far (the model's own field, entry 22). -/
structure MemoryPath where
  overlay : Bool
  turn : Nat
  queue : List Entry
  held : List Txn
  reads : List Reply
  deriving DecidableEq, Repr

/-! ## Plan loader (chapter 10) -/

/-- How far a load is (R146). -/
inductive LoadPhase where
  | idle
  | header
  | body (length : Nat)
  deriving DecidableEq, Repr

/-- Run state, shadow plan, fault reason, retry timer, load buffer and FETCH entries still to be placed. -/
structure Loader where
  run : RunState
  plan : Option Plan
  fault : PlanFault
  retry : Option Nat
  phase : LoadPhase
  buf : List Word
  items : List Entry
  deriving DecidableEq, Repr

/-! ## Cycle tracker (chapter 1) -/

/-- The fields of an accepted press state word (1.1). -/
structure StateWord where
  phase : Phase
  mould : Nat
  cycle : Nat
  deriving DecidableEq, Repr

/-- The tracker's state (1.2). -/
structure Tracker where
  state : TrackerState
  active : Option Nat
  last : Option StateWord
  openCycle : Nat
  lateStart : Bool
  lastAbandoned : Option Nat
  deferredOpen : Bool
  limitTimer : Option Nat
  unknownNote : Option Nat
  deriving DecidableEq, Repr

/-! ## Notices (chapter 8) and step 4 of a close -/

/-- What a raised notice carries (R127). -/
structure Notice where
  kind : NoticeKind
  profile : Option Nat
  subject : Nat
  cycle : Nat
  detail : Nat
  deriving DecidableEq, Repr

/-- What step 4 of a close has still to give to the report writer, in the order of R126. -/
inductive StepItem where
  | post (addr : Nat) (word : Word)
  | notice (n : Notice)
  | markPush (count target : Nat)
  deriving DecidableEq, Repr

/-- Where close processing stands (R13): none; before step 1; step 4 placing; published with work to release (R15). -/
inductive CloseStage where
  | idle
  | pending
  | placing
  | published
  deriving DecidableEq, Repr

/-- Close processing: its stage and what step 4 has still to give to the report writer. -/
structure Closing where
  stage : CloseStage
  items : List StepItem
  deriving DecidableEq, Repr

/-- What waits until an item of the report writer has been placed: step 4 of a close, which goes on entry by entry
(R126), or the DONE status of a request (R93, R149). -/
inductive Gate where
  | closeStep
  | mailbox
  deriving DecidableEq, Repr

/-- What the report writer has still to place: a POST of a head word or of a record word, a raised notice with its
sequence number, or the rest of a notice whose ring entry has been begun. `gate` names what waits for it. -/
inductive ReportItem where
  | post (addr : Nat) (word : Word) (gate : Option Gate)
  | notice (n : Notice) (seq : Nat) (gate : Option Gate)
  | rest (words : List (Nat × Word)) (gate : Option Gate)
  deriving DecidableEq, Repr

/-- The notice ring in use (8.4): base, E and kind mask. -/
structure Ring where
  base : Nat
  size : Nat
  kindMask : Word
  deriving DecidableEq, Repr

/-- The report writer's state (8.1), the ring in use (R120) and what waits to be placed. -/
structure Report where
  published : List Word
  building : List Word
  producer : Nat
  consumer : Nat
  overflow : Nat
  seq : Nat
  ring : Option Ring
  items : List ReportItem
  deriving DecidableEq, Repr

/-! ## Frame assemblers (chapter 2) -/

/-- Assembler states. -/
inductive AsmState where
  | hunt
  | assemble
  deriving DecidableEq, Repr

/-- A complete staged frame: its words, header first, and its place in the completion order (R27). -/
structure Frame where
  words : List Word
  order : Nat
  deriving DecidableEq, Repr

/-- One frame assembler (2.3). The collected count k is the length of `collected`. -/
structure Assembler where
  state : AsmState
  expected : Nat
  collected : List Word
  lastSeq : Option Nat
  slot0 : Option Frame
  slot1 : Option Frame
  silenceTimer : Option Nat
  silenceLatch : Bool
  overrun : Nat
  broken : Nat
  gap : Nat
  overrunRaised : Bool
  formatRaised : Bool
  deriving DecidableEq, Repr

/-! ## Channel evaluator (chapter 3) -/

/-- Hit detector states. -/
inductive DetState where
  | quiet
  | inHit
  | lockout
  deriving DecidableEq, Repr

/-- A hit detector (3.2): start and last-over index, quiet count, lockout remaining and running peak. -/
structure Detector where
  state : DetState
  first : Nat
  lastOver : Nat
  quiet : Nat
  lockout : Nat
  peak : Nat
  deriving DecidableEq, Repr

/-- One accumulator set (3.2), and the offset in use during the window (R38). Counts and sums are exact (entry 23). -/
structure Accum where
  n : Nat
  s1 : Int
  s2 : Nat
  clips : Nat
  long : Bool
  det : Detector
  qualified : Nat
  hits : Nat
  peak : Nat
  offset : Int
  deriving DecidableEq, Repr

/-- One entry of the held result set (R51); `outcome` is none for a channel the plan does not define. -/
structure HeldEntry where
  n : Nat
  rms : Nat
  qualified : Nat
  hits : Nat
  peak : Nat
  clips : Nat
  outcome : Option Outcome
  long : Bool
  deriving DecidableEq, Repr

/-- The accumulator sets of channels 0..63, the staging slot (window, slot 1?) being worked on, the held result set,
dump entries still to be placed, and the number of completed frames (the model's own field, entry 22). -/
structure Evaluator where
  accums : List Accum
  busy : Option (Nat × Bool)
  held : Option (List HeldEntry)
  dump : List Entry
  frames : Nat
  deriving DecidableEq, Repr

/-! ## Contexts (chapter 6) -/

/-- The slot part of a context (R97): B and n. -/
structure SlotCtx where
  b : Nat
  n : Nat
  deriving DecidableEq, Repr

/-- The cavity part of a context (R97), with the four slots of the cavity. -/
structure CavityCtx where
  state : CavState
  blind : Bool
  score : Nat
  confirm : Nat
  learned : Nat
  bound : Option (Fin 4)
  reported : Option (Fin 4)
  enables : BitVec 4
  slots : List SlotCtx
  deriving DecidableEq, Repr

/-- The channel part of a context (R97). -/
structure ChannelCtx where
  number : Nat
  offset : Int
  responsive : Bool
  deriving DecidableEq, Repr

/-- One mould context (R97). -/
structure Context where
  cavities : List CavityCtx
  channels : List ChannelCtx
  deriving DecidableEq, Repr

/-- The context table: context p of profile p (none before a plan is held), the image buffer (R102, R105) and image
entries still to be placed. -/
structure ContextTable where
  contexts : List Context
  buf : List Word
  items : List Entry
  deriving DecidableEq, Repr

/-! ## Output unit (chapter 7) -/

/-- The MARK pulse timer while a pulse runs (R118). -/
structure Pulse where
  count : Nat
  width : Nat
  deriving DecidableEq, Repr

/-- Stop latch, STOP active level once one has been taken (true for high), mark queue targets, and the pulse. -/
structure Outputs where
  stopLatch : Bool
  stopHigh : Option Bool
  marks : List Nat
  pulse : Option Pulse
  deriving DecidableEq, Repr

/-! ## Request mailbox (chapter 9) -/

/-- Mailbox states (R140). -/
inductive MailState where
  | idle
  | collecting
  | taken
  deriving DecidableEq, Repr

/-- How far the owner of a taken and checked request is: handed over and not begun; waiting for publish or abandon
(R15); its entries being placed; its FETCHes outstanding; its checked image waiting for the commit (R108); its load
in flight (R151); finished, the DONE status still to be placed. -/
inductive WorkPhase where
  | handed
  | waiting
  | placing
  | reading
  | checked
  | loading
  | done
  deriving DecidableEq, Repr

/-- The request in flight (R141): function, arguments as whole-word values, and its phase. -/
structure Work where
  fn : Fn
  args : List Nat
  phase : WorkPhase
  deriving DecidableEq, Repr

/-- Status words that the mailbox has still to place (R141, R140, R142). `done` is the DONE status of the request that
is TAKEN, made when it is placed; `finished` is a DONE status, with its serial and result, of a request that the
mailbox no longer holds: one that was malformed, or that a plan load found TAKEN (R143, entry 21). -/
inductive MailItem where
  | taken (word : Word)
  | finished (word : Word) (serial : Nat) (result : Result)
  | done (result : Result) (fault : PlanFault)
  deriving DecidableEq, Repr

/-- The mailbox (R140). -/
structure Mailbox where
  state : MailState
  fn : Word
  args : List Word
  expected : Nat
  disturbed : Bool
  serial : Nat
  work : Option Work
  items : List MailItem
  deriving DecidableEq, Repr

/-! ## The machine -/

/-- The state of the part, of the memory behind it, and the queue of waiting commands. -/
structure State where
  mem : List Host.Cell
  resetLow : Bool
  anchor : BitVec 2
  path : MemoryPath
  loader : Loader
  tracker : Tracker
  closing : Closing
  asm : List Assembler
  eval : Evaluator
  table : ContextTable
  out : Outputs
  report : Report
  mail : Mailbox
  pending : List Instr
  deriving DecidableEq, Repr

/-- No command of this block faults: the spec gives no behaviour that stops the part. A closed type with no
constructor; nobody raises one. -/
inductive Fault where
  deriving DecidableEq, Repr

/-- Why a command has no meaning. -/
inductive Refusal where
  /-- Raised by `exec` for a command that has no meaning yet; safe, the model stops. -/
  | notModelled (mnemonic : String)
  /-- Raised by the controller transactions for a burst that is no controller transaction: a length other than 1, 2,
  4 or 8, or an address not aligned to the length (9.1). Safe: no such burst reaches the part (entry 5). -/
  | notATransaction
  deriving DecidableEq, Repr

/-! ## Updates of one field -/

def State.setMem (s : State) (v : List Host.Cell) : State := { s with mem := v }
def State.setResetLow (s : State) (v : Bool) : State := { s with resetLow := v }
def State.setAnchor (s : State) (v : BitVec 2) : State := { s with anchor := v }
def State.setPath (s : State) (v : MemoryPath) : State := { s with path := v }
def State.setLoader (s : State) (v : Loader) : State := { s with loader := v }
def State.setTracker (s : State) (v : Tracker) : State := { s with tracker := v }
def State.setClosing (s : State) (v : Closing) : State := { s with closing := v }
def State.setAsm (s : State) (v : List Assembler) : State := { s with asm := v }
def State.setEval (s : State) (v : Evaluator) : State := { s with eval := v }
def State.setTable (s : State) (v : ContextTable) : State := { s with table := v }
def State.setOut (s : State) (v : Outputs) : State := { s with out := v }
def State.setReport (s : State) (v : Report) : State := { s with report := v }
def State.setMail (s : State) (v : Mailbox) : State := { s with mail := v }
def State.setPending (s : State) (v : List Instr) : State := { s with pending := v }

/-! ## Values after reset -/

/-- The tracker's values of R2. -/
def Tracker.start : Tracker :=
  { state := .noMould, active := none, last := none, openCycle := 0, lateStart := false, lastAbandoned := none,
    deferredOpen := false, limitTimer := none, unknownNote := none }

/-- An assembler's values of R20 (`expected` has a meaning in ASSEMBLE only, entry 27). -/
def Assembler.start : Assembler :=
  { state := .hunt, expected := 0, collected := [], lastSeq := none, slot0 := none, slot1 := none,
    silenceTimer := none, silenceLatch := false, overrun := 0, broken := 0, gap := 0, overrunRaised := false,
    formatRaised := false }

/-- A detector's cleared values of R36. -/
def Detector.start : Detector := { state := .quiet, first := 0, lastOver := 0, quiet := 0, lockout := 0, peak := 0 }

/-- An accumulator set's cleared values of R36, with the offset in use `o` of the window that begins (R38). -/
def Accum.cleared (o : Int) : Accum :=
  { n := 0, s1 := 0, s2 := 0, clips := 0, long := false, det := .start, qualified := 0, hits := 0, peak := 0, offset := o }

/-- The evaluator's values of R36, with `frames` frames completed so far. -/
def Evaluator.start (frames : Nat) : Evaluator :=
  { accums := List.replicate 64 (Accum.cleared 0), busy := none, held := none, dump := [], frames := frames }

/-- A bank of zeros (R120). -/
def zeroBank : List Word := List.replicate Config.bankWords 0

/-- The report writer's values of R120 before a plan is held. -/
def Report.start : Report :=
  { published := zeroBank, building := zeroBank, producer := 0, consumer := 0, overflow := 0, seq := 0, ring := none,
    items := [] }

/-- The mailbox's values of R143. -/
def Mailbox.start : Mailbox :=
  { state := .idle, fn := 0, args := [], expected := 2, disturbed := false, serial := 0, work := none, items := [] }

/-- The output unit's values of R111, R114, R115 and R118. -/
def Outputs.start : Outputs := { stopLatch := false, stopHigh := none, marks := [], pulse := none }

/-- The loader's values of R145 as RESET is released, before its load places anything. -/
def Loader.start : Loader :=
  { run := .loading, plan := none, fault := .none, retry := none, phase := .idle, buf := [], items := [] }

/-- The memory path's values of R133, R134 and R138, with the read data returned so far. -/
def MemoryPath.start (reads : List Reply) : MemoryPath :=
  { overlay := true, turn := 0, queue := [], held := [], reads := reads }

/-- The part with every block at its start values, around a memory, read data and a command queue. This is what
the model holds while RESET is low, when all block state is lost (R139, entry 19). -/
def State.blank (mem : List Host.Cell) (reads : List Reply) (pending : List Instr) : State :=
  { mem := mem, resetLow := true, anchor := 0, path := .start reads, loader := .start, tracker := .start,
    closing := { stage := .idle, items := [] }, asm := List.replicate 4 .start, eval := .start 0,
    table := { contexts := [], buf := [], items := [] }, out := .start, report := .start, mail := .start,
    pending := pending }

/-- The part right after RESET has been released: every block at its start value, the straps latched low (entry 2),
nothing in memory (entry 1), run state LOADING with the first load begun, whose four header FETCHes stand in the
outbound queue (R145, R146), and no command waiting. -/
def State.reset : State :=
  { State.blank [] [] [] with
    resetLow := false
    path := { MemoryPath.start [] with
      queue := [.fetch 0x400 .planLoader, .fetch 0x404 .planLoader, .fetch 0x408 .planLoader, .fetch 0x40C .planLoader] }
    loader := { Loader.start with phase := .header } }

end Sys2Proof.Machine
end

