-- ==== Sys2Proof/Machine/Codes.lean ====
section
/-! DEFINITION. The numeric codes of chapter 11 (11.1, 9.7, 8.4 and R11), both ways where the part reads them. -/

namespace Sys2Proof.Machine

/-- Run state codes. -/
def RunState.code : RunState → Nat
  | .loading => 0
  | .noPlan => 1
  | .running => 2

/-- Plan fault reason codes. -/
def PlanFault.code : PlanFault → Nat
  | .none => 0
  | .id => 1
  | .length => 2
  | .window => 3
  | .channel => 4
  | .profile => 5
  | .cavity => 6
  | .ring => 7
  | .address => 8

/-- Tracker state codes. -/
def TrackerState.code : TrackerState → Nat
  | .noMould => 0
  | .armed => 1
  | .opened => 2
  | .closing => 3

/-- Phase codes 0..4; 5..15 are invalid (11.3). -/
def Phase.ofCode : Nat → Option Phase
  | 0 => some .idle
  | 1 => some .fill
  | 2 => some .vibrate
  | 3 => some .demould
  | 4 => some .stopped
  | _ => none

/-- Abandon reason codes (R11). -/
def AbandonReason.code : AbandonReason → Nat
  | .mouldChange => 1
  | .pressStopped => 2
  | .overlong => 3
  | .planReload => 4

/-- Capture fault kind codes. -/
def CaptureFault.code : CaptureFault → Nat
  | .overrun => 1
  | .silent => 2
  | .format => 3

/-- Channel kind codes; 0 is kept for an undefined channel. -/
def ChannelKind.code : ChannelKind → Nat
  | .vib => 1
  | .ae => 2
  | .both => 3

/-- The channel kind with the given code. -/
def ChannelKind.ofCode : Nat → Option ChannelKind
  | 1 => some .vib
  | 2 => some .ae
  | 3 => some .both
  | _ => none

/-- Whether a kind carries vibration (VIB and BOTH, R63). -/
def ChannelKind.vibrates : ChannelKind → Bool
  | .vib => true
  | .ae => false
  | .both => true

/-- Whether a kind is examined for hits (AE and BOTH, R37). -/
def ChannelKind.emits : ChannelKind → Bool
  | .vib => false
  | .ae => true
  | .both => true

/-- Outcome codes; 0 is an undefined channel and 7 is "not considered". -/
def Outcome.code : Outcome → Nat
  | .good => 1
  | .silent => 2
  | .few => 3
  | .clipped => 4
  | .flat => 5

/-- Cavity state codes. -/
def CavState.code : CavState → Nat
  | .learning => 0
  | .sound => 1
  | .watch => 2
  | .suspect => 3
  | .cracked => 4
  | .excluded => 5

/-- The cavity state with the given code. -/
def CavState.ofCode : Nat → Option CavState
  | 0 => some .learning
  | 1 => some .sound
  | 2 => some .watch
  | 3 => some .suspect
  | 4 => some .cracked
  | 5 => some .excluded
  | _ => none

/-- Notice kind codes (8.4). -/
def NoticeKind.code : NoticeKind → Nat
  | .cavityState => 1
  | .blindChange => 2
  | .channelLost => 3
  | .channelBack => 4
  | .bindingLost => 5
  | .windowAbandoned => 6
  | .mouldUnknown => 7
  | .activeProfile => 8
  | .captureFault => 9
  | .requestDone => 10
  | .planLoaded => 11
  | .markQueueFull => 12

/-- The function with the given code; the whole of mailbox word 1 is compared (R152). -/
def Fn.ofCode : Nat → Option Fn
  | 1 => some .releaseCavity
  | 2 => some .excludeCavity
  | 3 => some .includeCavity
  | 4 => some .setPathEnables
  | 5 => some .acknowledgeStop
  | 6 => some .saveContext
  | 7 => some .restoreContext
  | 8 => some .reloadPlan
  | 9 => some .setOverlay
  | 10 => some .dumpChannels
  | _ => none

/-- How many arguments a function carries (9.7). -/
def Fn.arity : Fn → Nat
  | .releaseCavity => 3
  | .excludeCavity => 2
  | .includeCavity => 2
  | .setPathEnables => 3
  | .acknowledgeStop => 0
  | .saveContext => 2
  | .restoreContext => 2
  | .reloadPlan => 0
  | .setOverlay => 1
  | .dumpChannels => 1

/-- Result codes (R142). -/
def Result.code : Result → Nat
  | .ok => 0
  | .unknownFunction => 1
  | .argumentCount => 2
  | .argumentRange => 3
  | .wrongState => 4
  | .imageMismatch => 5
  | .badImage => 6
  | .malformed => 7
  | .noPlan => 8
  | .planRejected => 9

/-- Snapshot kind codes (11.8). -/
def SnapshotKind.code : SnapshotKind → Nat
  | .atOnce => 1
  | .atPublish => 2
  | .atAbandon => 3

/-- A slot number in a 3-bit field, 7 for none. -/
def slotCode : Option (Fin 4) → Nat
  | some k => k.val
  | none => 7

/-- A slot field of an image: 0..3, 7 for none; codes 4 to 6 are no slot (11.8). -/
def slotOfCode : Nat → Option (Option (Fin 4))
  | 0 => some (some 0)
  | 1 => some (some 1)
  | 2 => some (some 2)
  | 3 => some (some 3)
  | 7 => some none
  | _ => none

/-- A profile in a 3-bit field, 7 for none. -/
def profileCode3 (p : Option Nat) : Nat := p.getD 7

/-- A profile in an 8-bit notice field, FFh for none. -/
def profileCode8 (p : Option Nat) : Nat := p.getD 0xFF

end Sys2Proof.Machine
end

