-- ==== Sys2Proof/Machine/Bits.lean ====
section
/-! DEFINITION. Bit fields of words, saturating counts and the exact integer square root. -/

namespace Sys2Proof.Machine

/-- The unsigned number in bits lo+width-1..lo of a word (chapter 11: a field is unsigned unless marked). -/
def bitsAt (w : Word) (lo width : Nat) : Nat := (w.toNat >>> lo) % 2 ^ width

/-- Bit `i` of a word as a flag. -/
def bitAt (w : Word) (i : Nat) : Bool := bitsAt w i 1 = 1

/-- A value placed in the field of `width` bits at bit `lo`; what does not fit the field is cut off. -/
def fld (v lo width : Nat) : Nat := (v % 2 ^ width) * 2 ^ lo

/-- A flag placed at bit `i`. -/
def flag (b : Bool) (i : Nat) : Nat := if b then 2 ^ i else 0

/-- The word made of fields that lie apart: every bit that no field names is 0 (R152). -/
def mkWord (fields : List Nat) : Word := BitVec.ofNat 32 fields.sum

/-- A count that stays at its maximum `m` when it would increase further ("saturates"). -/
def satAdd (m a b : Nat) : Nat := min m (a + b)

/-- `x` replaced by `a` if it is below `a` and by `b` if it is above `b` ("clamped" to a..b). -/
def clampNat (a b x : Nat) : Nat := if x < a then a else if b < x then b else x

/-- Clamping of a signed value to a..b. -/
def clampInt (a b x : Int) : Int := if x < a then a else if b < x then b else x

/-- (a - b) mod m for naturals, as R117, R128 and R129 use it. -/
def subMod (a b m : Nat) : Nat := (a + (m - b % m)) % m

/-- The signed number that the low 16 bits of `v` spell. -/
def signed16 (v : Nat) : Int := if v % 65536 < 32768 then (v % 65536 : Nat) else ((v % 65536 : Nat) : Int) - 65536

/-- The 16-bit two's complement code of a signed number. -/
def unsigned16 (x : Int) : Nat := (x % 65536).toNat

/-- One digit of the root: bit `i` is kept in `r` if the square stays within `v`. -/
def rootDigit (v r i : Nat) : Nat := if (r + 2 ^ i) * (r + 2 ^ i) ≤ v then r + 2 ^ i else r

/-- The root of `v` digit by digit, from bit n-1 down to bit 0, above the digits `r` already found. -/
def rootFrom (v : Nat) : Nat → Nat → Nat
  | 0, r => r
  | n + 1, r => rootFrom v n (rootDigit v r n)

/-- The exact integer square root of R47: the largest r with r × r ≤ v (v below 2^32). -/
def isqrt (v : Nat) : Nat := rootFrom v 16 0

/-- Insertion into an ascending list, equal values side by side (R66). -/
def insertAscending (x : Nat) : List Nat → List Nat
  | [] => [x]
  | y :: ys => if x ≤ y then x :: y :: ys else y :: insertAscending x ys

/-- The values sorted ascending (R66). -/
def sortAscending : List Nat → List Nat
  | [] => []
  | x :: xs => insertAscending x (sortAscending xs)

/-- Whether the byte ranges [a, a + la) and [b, b + lb) have a byte in common. -/
def overlaps (a la b lb : Nat) : Bool := a < b + lb && b < a + la && 0 < la && 0 < lb

/-- Two words of 64 flags, flag k for channel k: word 0 holds channels 0..31 and word 1 channels 32..63. -/
def channelMask (chans : List Nat) (half : Nat) : Word :=
  mkWord ((List.range 32).map fun k => flag (chans.contains (32 * half + k)) k)

end Sys2Proof.Machine
end

