-- ==== Sys2Proof/Machine/Memory.lean ====
section
/-! DEFINITION. Memory: a canonical list of (address, byte) pairs, and its word accesses by lanes. Lane k of the word
at byte address a is kept at byte a + k (entry 1; every access of the part and of the port is by words and lanes). -/

namespace Sys2Proof.Machine

/-- The byte at address `x`; an address that is not listed reads `Config.unwritten`. -/
def readByte : List Host.Cell → Nat → Byte
  | [], _ => Config.unwritten
  | (a, b) :: m, x => if a = x then b else readByte m x

/-- A new head for a canonical list: left out when it is what an unlisted address reads as. -/
def consByte (x : Nat) (v : Byte) (m : List Host.Cell) : List Host.Cell :=
  if v = Config.unwritten then m else (x, v) :: m

/-- The memory with `v` at address `x`, in canonical form. -/
def writeByte : List Host.Cell → Nat → Byte → List Host.Cell
  | [], x, v => consByte x v []
  | (a, b) :: m, x, v =>
    if x < a then consByte x v ((a, b) :: m) else if x = a then consByte x v m else (a, b) :: writeByte m x v

/-- Every address of the list lies at or above `lo`, addresses rise strictly, and no entry is `Config.unwritten`. -/
def wfFrom : Nat → List Host.Cell → Bool
  | _, [] => true
  | lo, (a, b) :: m => decide (lo ≤ a) && decide (b ≠ Config.unwritten) && wfFrom (a + 1) m

/-- The canonical form of memory. -/
def memWf (m : List Host.Cell) : Bool := wfFrom 0 m

/-- The word at byte address `a`: lane k is byte a + k. -/
def readWord (m : List Host.Cell) (a : Nat) : Word :=
  (readByte m (a + 3) ++ readByte m (a + 2) ++ readByte m (a + 1) ++ readByte m a : BitVec 32)

/-- Lane `k` of a word. -/
def laneOf (w : Word) (k : Nat) : Byte := w.extractLsb' (8 * k) 8

/-- Lane `k` of the word at `a` written, if it is among the written lanes. -/
def writeLane (m : List Host.Cell) (a : Nat) (w : Word) (lanes : Lanes) (k : Nat) : List Host.Cell :=
  if lanes.getLsbD k then writeByte m (a + k) (laneOf w k) else m

/-- A write of the given lanes of the word at byte address `a`. -/
def writeLanes (m : List Host.Cell) (a : Nat) (w : Word) (lanes : Lanes) : List Host.Cell :=
  writeLane (writeLane (writeLane (writeLane m a w lanes 0) a w lanes 1) a w lanes 2) a w lanes 3

/-- A write of the full word at byte address `a`. -/
def writeWord (m : List Host.Cell) (a : Nat) (w : Word) : List Host.Cell := writeLanes m a w 15

/-- Lane `k` of `new` where it is written, of `old` where it is not. -/
def pickLane (old new : Word) (lanes : Lanes) (k : Nat) : Byte :=
  if lanes.getLsbD k then laneOf new k else laneOf old k

/-- The lanes of `new` replace the same lanes of `old` (R135). -/
def mergeLanes (old new : Word) (lanes : Lanes) : Word :=
  (pickLane old new lanes 3 ++ pickLane old new lanes 2 ++ pickLane old new lanes 1 ++ pickLane old new lanes 0 : BitVec 32)

/-- Byte address of word `i` of a burst that starts at `a` (9.1). -/
def burstAddr (a : Addr) (i : Nat) : Nat := (a.toNat + 4 * i) % Config.memoryBytes

end Sys2Proof.Machine
end

