-- ==== Sys2Proof/Machine/Ops.lean ====
section
/-! DEFINITION. The operations that the blocks share: raising notices (R127), the mark queue (R116), completing a
request (R142), and placing entries in the outbound queue (R134), whose producers wait for room in lists of their own. -/

namespace Sys2Proof.Machine

/-- Byte address of the anchor region (R144). -/
def State.base (s : State) : Nat := s.anchor.toNat * Config.anchorStride

/-- The plan that every block consults, while the run state is RUNNING. -/
def State.runningPlan (s : State) : Option Plan :=
  match s.loader.run with
  | .running => s.loader.plan
  | .loading => none
  | .noPlan => none

/-! ## Lines (11.10) -/

/-- STOP, true for high (R114): low while RESET is low and until a level has been taken. -/
def State.stopLine (s : State) : Bool :=
  match s.resetLow, s.out.stopHigh with
  | true, _ => false
  | false, none => false
  | false, some high => if s.out.stopLatch then high else !high

/-- MARK, active high (R118). -/
def State.markLine (s : State) : Bool := !s.resetLow && s.out.pulse.isSome

/-- ATTN, active high (R130). -/
def State.attnLine (s : State) : Bool :=
  !s.resetLow && (s.report.producer != s.report.consumer || s.loader.run == .noPlan)

/-! ## Raising notices -/

/-- A notice of the active profile and the open-window cycle number that the tracker holds (R127). -/
def State.notice (s : State) (k : NoticeKind) (subject detail : Nat) : Notice :=
  { kind := k, profile := s.tracker.active, subject := subject, cycle := s.tracker.openCycle, detail := detail }

/-- A raised notice (R127): outside RUNNING it is not written (R120); a masked kind is dropped without trace;
otherwise it takes the current sequence number and joins what the report writer has to place (entry 12). -/
def raiseNotice (gate : Option Gate) (n : Notice) (s : State) : State :=
  match s.loader.run, s.report.ring with
  | .running, some r =>
    if bitAt r.kindMask n.kind.code then
      s.setReport { s.report with
        seq := (s.report.seq + 1) % 65536
        items := s.report.items ++ [.notice n s.report.seq gate] }
    else s
  | .running, none => s
  | .loading, _ => s
  | .noPlan, _ => s

/-- What waits for a report item. -/
def ReportItem.gate : ReportItem → Option Gate
  | .post _ _ g => g
  | .notice _ _ g => g
  | .rest _ g => g

/-- Whether `g` waits for something the report writer has still to place. -/
def gated (g : Gate) (s : State) : Bool := s.report.items.any fun i => i.gate == some g

/-! ## The mark queue and step 4 -/

/-- The mark push (R116): the target joins the back of the queue, or is dropped with a MARK QUEUE FULL notice. -/
def pushMark (count target : Nat) (s : State) : State :=
  if s.out.marks.length < Config.markCapacity then
    s.setOut { s.out with marks := s.out.marks ++ [target] }
  else raiseNotice (some .closeStep) (s.notice .markQueueFull count target) s

/-- The report writer waits with `items`. -/
def setReportItems (items : List ReportItem) (s : State) : State := s.setReport { s.report with items := items }

/-- Step 4 goes on (R126): its leading record word joins what the report writer has to place, or its leading notice is
raised, and the next item waits until that has been placed; the mark push is made when everything before it has been
placed. What another block raises meanwhile goes between two entries of step 4 (R126, entry 12). -/
def raiseDue : List StepItem → State → State
  | [], s => s.setClosing { s.closing with items := [] }
  | .post a w :: r, s =>
    (setReportItems (s.report.items ++ [.post a w (some .closeStep)]) s).setClosing { s.closing with items := r }
  | .notice n :: r, s =>
    let s' := raiseNotice (some .closeStep) n s
    if gated .closeStep s' then s'.setClosing { s'.closing with items := r } else raiseDue r s'
  | .markPush c t :: r, s =>
    let s' := pushMark c t s
    if gated .closeStep s' then s'.setClosing { s'.closing with items := r } else raiseDue r s'

/-- Step 4 goes on as far as it can without a place in the outbound queue. -/
def advance (s : State) : State := if gated .closeStep s then s else raiseDue s.closing.items s

/-! ## Completing a request -/

/-- The mailbox status word (11.4). -/
def statusWord (state : Nat) (disturbed : Bool) (serial : Nat) (fn : Word) (result fault : Nat) : Word :=
  mkWord [fld state 0 4, flag disturbed 7, fld serial 8 8, fld (bitsAt fn 0 8) 16 8, fld result 24 4, fld fault 28 4]

/-- A request completes with a result (R142): its DONE status is to be placed next. -/
def complete (r : Result) (s : State) : State :=
  s.setMail { s.mail with
    work := s.mail.work.map fun w => { w with phase := .done }
    items := s.mail.items ++ [.done r s.loader.fault] }

/-- The phase of the request in flight becomes `p`. -/
def setPhase (p : WorkPhase) (s : State) : State :=
  s.setMail { s.mail with work := s.mail.work.map fun w => { w with phase := p } }

/-- Whether the request in flight has phase `p`. -/
def workPhaseIs (p : WorkPhase) (s : State) : Bool := s.mail.work.any fun w => w.phase == p

/-! ## Placing entries -/

/-- The queue holds fewer than 32 entries (R134). -/
def hasRoom (s : State) : Bool := s.path.queue.length < Config.queueCapacity

/-- An entry joins the back of the outbound queue. -/
def enqueue (e : Entry) (s : State) : State := s.setPath { s.path with queue := s.path.queue ++ [e] }

/-- Whether the mailbox has a status to place that need not wait: the DONE status of a request follows its CAVITY STATE
notice and the head POSTs of a load (R93, R149); a TAKEN status, and the status of a request that is no longer held,
follow nothing but the mailbox's own statuses. -/
def statusReady (s : State) : Bool :=
  match s.mail.items with
  | [] => false
  | .taken _ :: _ => true
  | .finished _ _ _ :: _ => true
  | .done _ _ :: _ => !gated .mailbox s

/-- Whether producer `p` has an entry to place and room to place it (R134), and nothing it must follow is still to
be placed: a status by `statusReady`, and a load's FETCHes follow the notices raised before it (R120). -/
def canPlace (s : State) : Producer → Bool
  | .reportWriter => hasRoom s && !s.report.items.isEmpty
  | .mailbox => hasRoom s && statusReady s
  | .contextTable => hasRoom s && !s.table.items.isEmpty
  | .channelEvaluator => hasRoom s && !s.eval.dump.isEmpty
  | .planLoader => hasRoom s && !s.loader.items.isEmpty && s.report.items.isEmpty

/-- The four words of a notice (11.7), for the sequence number it has taken. -/
def noticeWords (n : Notice) (seq overflow producer : Nat) : List Word :=
  [mkWord [fld n.kind.code 0 8, fld (profileCode8 n.profile) 8 8, fld n.subject 16 16],
   mkWord [fld n.cycle 0 16, fld seq 16 16],
   mkWord [n.detail],
   mkWord [fld overflow 0 16, fld producer 16 10]]

/-- Words at ascending word addresses from `a`. -/
def wordsFrom (a : Nat) : List Word → List (Nat × Word)
  | [] => []
  | w :: ws => (a, w) :: wordsFrom (a + 4) ws

/-- The placing of a notice begins (R128): with the ring full it is lost and the overflow count is posted; otherwise
the first of its words is placed and the others follow. -/
def placeNotice (ring : Ring) (n : Notice) (seq : Nat) (gate : Option Gate) (rest : List ReportItem) (s : State) : State :=
  if (s.report.producer + 1) % ring.size = s.report.consumer then
    let o := satAdd 65535 s.report.overflow 1
    enqueue (.post (s.base + Config.overflowOffset) (mkWord [fld o 0 16]) 0)
      (s.setReport { s.report with overflow := o, items := rest })
  else
    match wordsFrom (ring.base + s.report.producer * 16) (noticeWords n seq s.report.overflow s.report.producer) with
    | [] => setReportItems rest s
    | (a, w) :: ws => enqueue (.post a w 0) (setReportItems (.rest ws gate :: rest) s)

/-- The producer index advances as its POST is placed (R128). -/
def placeProducerIndex (ring : Ring) (rest : List ReportItem) (s : State) : State :=
  let p := (s.report.producer + 1) % ring.size
  enqueue (.post (s.base + Config.producerOffset) (mkWord [fld p 0 10]) 0)
    (s.setReport { s.report with producer := p, items := rest })

/-- The report writer's next entry. -/
def placeReport (s : State) : State :=
  match s.report.items, s.report.ring with
  | [], _ => s
  | .post a w _ :: r, _ => enqueue (.post a w 0) (setReportItems r s)
  | .notice n q g :: r, some ring => placeNotice ring n q g r s
  | .notice _ _ _ :: r, none => setReportItems r s
  | .rest ((a, w) :: ws) g :: r, _ => enqueue (.post a w 0) (setReportItems (.rest ws g :: r) s)
  | .rest [] _ :: r, some ring => placeProducerIndex ring r s
  | .rest [] _ :: r, none => setReportItems r s

/-- A REQUEST DONE notice (R142). -/
def raiseRequestDone (serial : Nat) (result : Result) (s : State) : State :=
  raiseNotice none (s.notice .requestDone serial result.code) s

/-- The word of a DONE status (R142): the disturbed flag as it stands, the serial, the function code and the result, with
the plan fault reason for PLAN REJECTED. -/
def doneWord (m : Mailbox) (r : Result) (f : PlanFault) : Word :=
  statusWord 2 m.disturbed m.serial m.fn r.code (if r = .planRejected then f.code else 0)

/-- The mailbox's next status word (R141, R142). A DONE status is made with the disturbed flag as it then stands,
and the mailbox enters IDLE with it; the REQUEST DONE notice is raised after it (entry 13), and names the profile and
the cycle that the tracker then holds (R127, entry 29). -/
def placeStatus (s : State) : State :=
  match s.mail.items with
  | [] => s
  | .taken w :: r => enqueue (.post (s.base + Config.statusOffset) w 0) (s.setMail { s.mail with items := r })
  | .finished w serial result :: r =>
    raiseRequestDone serial result
      (enqueue (.post (s.base + Config.statusOffset) w 0) (s.setMail { s.mail with items := r }))
  | .done result fault :: r =>
    raiseRequestDone s.mail.serial result
      (enqueue (.post (s.base + Config.statusOffset) (doneWord s.mail result fault) 0)
        (s.setMail { s.mail with state := .idle, work := none, items := r }))

/-- The context table's next image entry; a save completes with its last one (R103). -/
def placeImage (s : State) : State :=
  match s.table.items with
  | [] => s
  | [e] =>
    let s' := enqueue e (s.setTable { s.table with items := [] })
    if workPhaseIs .placing s' then complete .ok (s'.setTable { s'.table with buf := [] }) else s'
  | e :: r => enqueue e (s.setTable { s.table with items := r })

/-- The channel evaluator's next dump entry; the dump completes with its last one (R53). -/
def placeDump (s : State) : State :=
  match s.eval.dump with
  | [] => s
  | [e] =>
    let s' := enqueue e (s.setEval { s.eval with dump := [] })
    if workPhaseIs .placing s' then complete .ok s' else s'
  | e :: r => enqueue e (s.setEval { s.eval with dump := r })

/-- The plan loader's next FETCH (R146). -/
def placeFetch (s : State) : State :=
  match s.loader.items with
  | [] => s
  | e :: r => enqueue e (s.setLoader { s.loader with items := r })

/-- Producer `p` places its next entry (R134). -/
def placeNext (p : Producer) (s : State) : State :=
  advance (match p with
    | .reportWriter => placeReport s
    | .mailbox => placeStatus s
    | .contextTable => placeImage s
    | .channelEvaluator => placeDump s
    | .planLoader => placeFetch s)

/-- The producers in the order in which a step that places entries serves them (entry 11). -/
def producers : List Producer := [.reportWriter, .mailbox, .contextTable, .channelEvaluator, .planLoader]

/-- Entries are placed while there is room and something to place, at most `n` of them. -/
def placeUpTo : Nat → State → State
  | 0, s => s
  | n + 1, s =>
    match producers.find? (canPlace s) with
    | none => s
    | some p => placeUpTo n (placeNext p s)

/-- What a step has given its producers to place is placed as far as there is room; the rest waits (R134). -/
def settle (s : State) : State := placeUpTo Config.queueCapacity (advance s)

end Sys2Proof.Machine
end

