-- ==== Sys2Proof/Machine/Plan.lean ====
section
/-! DEFINITION. The plan image (11.9): reading it, the structural checks of R147 and R154, the clamps of R148, and what
the other blocks ask of a plan. -/

namespace Sys2Proof.Machine

/-! ## What the blocks ask of a plan -/

/-- Words per scan (R16). -/
def WindowPlan.scanWords (w : WindowPlan) : Nat :=
  match w.packing with
  | .pair16 => (w.chans.length + 1) / 2
  | .solo24 => w.chans.length

/-- The frame length L in words (R16). -/
def WindowPlan.frameWords (w : WindowPlan) : Nat := 1 + w.scans * w.scanWords

/-- Bytes of the capture ring (R16). -/
def WindowPlan.ringBytes (w : WindowPlan) : Nat := 4 * w.frameWords * w.frames

/-- Whether slot `k` of a cavity is installed (4.1). -/
def CavityPlan.has (c : CavityPlan) (k : Fin 4) : Bool := c.installed.getLsbD k.val

/-- The channel of slot `k` (4.1). -/
def CavityPlan.chan (c : CavityPlan) (k : Fin 4) : Nat := c.slotChans.getD k.val 0

/-- The four slots. -/
def slots4 : List (Fin 4) := [0, 1, 2, 3]

/-- Whether an installed slot of the cavity names channel `n`. -/
def CavityPlan.names (c : CavityPlan) (n : Nat) : Bool := slots4.any fun k => c.has k && c.chan k == n

/-- The channels of a profile, ascending (R35). -/
def ProfilePlan.chans (p : ProfilePlan) : List Nat := (List.range 64).filter fun n => p.cavities.any fun c => c.names n

/-- The plan's entry for channel `n`. -/
def Plan.channel (p : Plan) (n : Nat) : Option ChannelPlan := p.channels.find? fun c => c.number == n

/-- The number of the capture window that carries channel `n`. -/
def Plan.windowOf (p : Plan) (n : Nat) : Nat := p.windows.findIdx fun w => w.chans.contains n

/-- The profile with a mould id. -/
def Plan.profileOf (p : Plan) (mould : Nat) : Option Nat := p.profiles.findIdx? fun q => q.mouldId == mould

/-- The channels the plan defines. -/
def Plan.definedChans (p : Plan) : List Nat := (List.range 64).filter fun n => (p.channel n).isSome

/-- Length in words of an image of the profile: 8 + 6 × C + M (6.3). -/
def ProfilePlan.imageWords (p : ProfilePlan) : Nat := 8 + 6 * p.cavities.length + p.chans.length

/-! ## Reading the image -/

/-- Word `i` of the plan. -/
def planWord (ws : List Word) (i : Nat) : Word := ws.getD i 0

/-- Byte `j` of a byte list that starts at word `i` (11.9). -/
def planByte (ws : List Word) (i j : Nat) : Nat := bitsAt (planWord ws (i + j / 4)) (8 * (j % 4)) 8

/-- The count fields as they are stored (R154). -/
def windowCount (ws : List Word) : Nat := bitsAt (planWord ws 4) 0 3
def profileCount (ws : List Word) : Nat := bitsAt (planWord ws 4) 4 3
def channelsAt (ws : List Word) : Nat := 11 + 7 * windowCount ws
def channelCount (ws : List Word) : Nat := bitsAt (planWord ws (channelsAt ws)) 0 7
def profilesAt (ws : List Word) : Nat := channelsAt ws + 1 + 4 * channelCount ws

/-- The cavity count stored in the profile entry at word `i`. -/
def cavityCount (ws : List Word) (i : Nat) : Nat := bitsAt (planWord ws i) 8 8

/-- Where the `n` profile entries from word `i` on start, if they all end within `len` words. -/
def profileStarts (ws : List Word) (len : Nat) : Nat → Nat → Option (List Nat)
  | 0, i => if i ≤ len then some [] else none
  | n + 1, i => if i < len then (profileStarts ws len n (i + 7 + 3 * cavityCount ws i)).map (i :: ·) else none

/-- Where the profile entries start, if every section, computed from the stored counts, ends within the plan's
length (R154). -/
def planSections (ws : List Word) (len : Nat) : Option (List Nat) :=
  if 11 ≤ len && channelsAt ws < len then profileStarts ws len (profileCount ws) (profilesAt ws) else none

/-- The window entry at word `i`. -/
def readWindow (ws : List Word) (i : Nat) : WindowPlan :=
  { base := bitsAt (planWord ws i) 0 24
    frames := bitsAt (planWord ws (i + 1)) 0 13
    scans := bitsAt (planWord ws (i + 1)) 16 5
    packing := if bitsAt (planWord ws (i + 2)) 0 2 = 2 then .solo24 else .pair16
    half := if bitsAt (planWord ws (i + 2)) 8 2 = 2 then .firstHigh else .firstLow
    chans := (List.range (bitsAt (planWord ws (i + 1)) 24 5)).map fun j => planByte ws (i + 3) j }

/-- The codes of the window entry at word `i` are listed ones; the half order counts for PAIR16 only (11.9). -/
def windowCodesOk (ws : List Word) (i : Nat) : Bool :=
  let p := bitsAt (planWord ws (i + 2)) 0 2
  let h := bitsAt (planWord ws (i + 2)) 8 2
  p = 2 || (p = 1 && (h = 1 || h = 2))

/-- The channel entry at word `i`. -/
def readChannel (ws : List Word) (i : Nat) : ChannelPlan :=
  { number := bitsAt (planWord ws i) 0 8
    kind := (ChannelKind.ofCode (bitsAt (planWord ws i) 8 8)).getD .vib
    nmin := bitsAt (planWord ws i) 16 16
    clipLimit := bitsAt (planWord ws (i + 1)) 0 16
    th := bitsAt (planWord ws (i + 1)) 16 16
    hdt := bitsAt (planWord ws (i + 2)) 0 16
    hlt := bitsAt (planWord ws (i + 2)) 16 16
    dmin := bitsAt (planWord ws (i + 3)) 0 16 }

/-- The cavity entry at word `i`. -/
def readCavity (ws : List Word) (i : Nat) : CavityPlan :=
  { group := bitsAt (planWord ws i) 0 8
    installed := BitVec.ofNat 4 (bitsAt (planWord ws i) 8 4)
    enables := BitVec.ofNat 4 (bitsAt (planWord ws i) 16 4)
    startsExcluded := bitAt (planWord ws i) 24
    slotChans := (List.range 4).map fun j => planByte ws (i + 1) j
    longAddr := bitsAt (planWord ws (i + 2)) 0 24 }

/-- The profile entry at word `i`. -/
def readProfile (ws : List Word) (i : Nat) : ProfilePlan :=
  { mouldId := bitsAt (planWord ws i) 0 8
    groups := bitsAt (planWord ws i) 16 8
    confirmations := bitsAt (planWord ws i) 24 8
    layoutSerial := bitsAt (planWord ws (i + 1)) 0 16
    xd := bitsAt (planWord ws (i + 1)) 16 16
    t1 := bitsAt (planWord ws (i + 2)) 0 16
    t2 := bitsAt (planWord ws (i + 2)) 16 16
    t3 := bitsAt (planWord ws (i + 3)) 0 16
    h := bitsAt (planWord ws (i + 3)) 16 16
    hitWeight := bitsAt (planWord ws (i + 4)) 0 8
    d := bitsAt (planWord ws (i + 4)) 8 8
    w := bitsAt (planWord ws (i + 4)) 16 8
    delay := bitsAt (planWord ws (i + 4)) 24 8
    recordMode :=
      if bitsAt (planWord ws (i + 5)) 0 2 = 0 then .none
      else if bitsAt (planWord ws (i + 5)) 0 2 = 1 then .every else .onChange
    recordFormat := if bitsAt (planWord ws (i + 5)) 4 2 = 0 then .short else .long
    stopAction := bitAt (planWord ws (i + 5)) 8
    markOnCrack := bitAt (planWord ws (i + 5)) 9
    markOnSuspect := bitAt (planWord ws (i + 5)) 10
    recordOrigin := bitsAt (planWord ws (i + 6)) 0 24
    cavities := (List.range (cavityCount ws i)).map fun j => readCavity ws (i + 7 + 3 * j) }

/-- The record codes of the profile entry at word `i` are listed ones. -/
def profileCodesOk (ws : List Word) (i : Nat) : Bool :=
  bitsAt (planWord ws (i + 5)) 0 2 ≤ 2 && bitsAt (planWord ws (i + 5)) 4 2 ≤ 1

/-- The plan as stored, with its profile entries at the words `starts`. -/
def readPlan (ws : List Word) (starts : List Nat) : Plan :=
  { serial := bitsAt (planWord ws 3) 0 16
    stopHigh := !bitAt (planWord ws 4) 8
    stateWordAddr := bitsAt (planWord ws 5) 0 24
    windowLimit := bitsAt (planWord ws 6) 0 16
    silenceLimit := bitsAt (planWord ws 6) 16 16
    pulseW := bitsAt (planWord ws 7) 0 8
    pulseP := bitsAt (planWord ws 7) 8 8
    ringBase := bitsAt (planWord ws 8) 0 24
    ringSize := bitsAt (planWord ws 9) 0 16
    kindMask := planWord ws 10 &&& 0x1FFE
    windows := (List.range (windowCount ws)).map fun j => readWindow ws (11 + 7 * j)
    channels := (List.range (channelCount ws)).map fun j => readChannel ws (channelsAt ws + 1 + 4 * j)
    profiles := starts.map (readProfile ws) }

/-! ## Structural checks (R147, R154) -/

/-- Whether a value lies in a..b. -/
def within (a b x : Nat) : Bool := a ≤ x && x ≤ b

/-- Whether two of the areas (start, bytes) overlap. -/
def someOverlap : List (Nat × Nat) → Bool
  | [] => false
  | (a, la) :: r => r.any (fun b => overlaps a la b.1 b.2) || someOverlap r

/-- Whether no value occurs twice. -/
def distinct : List Nat → Bool
  | [] => true
  | x :: r => !r.contains x && distinct r

/-- The area of `n` bytes from `a` starts at a word and lies below 1000000h. -/
def areaOk (a n : Nat) : Bool := a % 4 = 0 && a + n ≤ Config.memoryBytes

/-- The capture rings as areas. -/
def Plan.rings (p : Plan) : List (Nat × Nat) := p.windows.map fun w => (w.base, w.ringBytes)

/-- Check 3, WINDOW. -/
def windowsOk (ws : List Word) (base : Nat) (p : Plan) : Bool :=
  within 1 4 p.windows.length
    && p.windows.all (fun w => within 1 16 w.scans && within 1 16 w.chans.length && within 1 4096 w.frames
        && areaOk w.base w.ringBytes)
    && (List.range p.windows.length).all (fun j => windowCodesOk ws (11 + 7 * j))
    && !someOverlap ((base, Config.anchorBytes) :: p.rings)

/-- Every channel number that a window list names. -/
def Plan.listed (p : Plan) : List Nat := p.windows.flatMap fun w => w.chans

/-- Check 4, CHANNEL. -/
def channelsOk (ws : List Word) (p : Plan) : Bool :=
  let numbers := p.channels.map fun c => c.number
  within 1 64 numbers.length
    && numbers.all (fun n => n < 64 && p.listed.contains n)
    && p.listed.all (fun n => n < 64 && numbers.contains n)
    && distinct numbers && distinct p.listed
    && (List.range numbers.length).all
        (fun j => (ChannelKind.ofCode (bitsAt (planWord ws (channelsAt ws + 1 + 4 * j)) 8 8)).isSome)

/-- Check 5, PROFILE. -/
def profilesOk (ws : List Word) (starts : List Nat) (p : Plan) : Bool :=
  within 1 4 p.profiles.length
    && distinct (p.profiles.map fun q => q.mouldId)
    && p.profiles.all (fun q => within 1 15 q.mouldId && q.t1 < q.t2 && q.t2 < q.t3 && q.h < q.t1
        && within 1 48 q.cavities.length && within 1 8 q.groups)
    && starts.all (profileCodesOk ws)

/-- Check 6, CAVITY, for one profile. -/
def cavitiesOk (p : Plan) (q : ProfilePlan) : Bool :=
  q.cavities.all (fun c => slots4.all (fun k => !c.has k || p.listed.contains (c.chan k))
      && c.group < q.groups
      && (q.recordFormat == .short || areaOk c.longAddr 64))
    && (List.range q.groups).all (fun g => q.cavities.countP (fun c => c.group == g) ≤ 12)

/-- Check 7, RING. -/
def ringOk (p : Plan) : Bool :=
  [16, 32, 64, 128, 256, 512, 1024].contains p.ringSize && areaOk p.ringBase (16 * p.ringSize)

/-- The record areas of a profile that count in check 8: its record area when SHORT, its long-record areas when LONG. -/
def ProfilePlan.recordAreas (q : ProfilePlan) : List (Nat × Nat) :=
  match q.recordFormat with
  | .short => [(q.recordOrigin, 32 * q.cavities.length)]
  | .long => q.cavities.map fun c => (c.longAddr, 64)

/-- Check 8, ADDRESS. Two long-record areas that overlap each other fail it too (entry 18). -/
def addressesOk (base : Nat) (p : Plan) : Bool :=
  let own := (p.stateWordAddr, 4) :: (p.ringBase, 16 * p.ringSize) :: p.profiles.flatMap ProfilePlan.recordAreas
  let fixed := (base, Config.anchorBytes) :: p.rings
  p.stateWordAddr % 4 = 0
    && p.profiles.all (fun q => q.recordFormat == .long || areaOk q.recordOrigin (32 * q.cavities.length))
    && !someOverlap own
    && !own.any (fun a => fixed.any fun b => overlaps a.1 a.2 b.1 b.2)

/-- The first structural check from WINDOW on that fails (R147), or none. -/
def structuralFault (ws : List Word) (base : Nat) (starts : List Nat) (p : Plan) : PlanFault :=
  if !windowsOk ws base p then .window
  else if !channelsOk ws p then .channel
  else if !profilesOk ws starts p then .profile
  else if !p.profiles.all (cavitiesOk p) then .cavity
  else if !ringOk p then .ring
  else if !addressesOk base p then .address
  else .none

/-! ## Clamping (R148) -/

/-- A value clamped to a..b, and 1 if the clamp changed it. -/
def clampCount (a b x : Nat) : Nat × Nat := (clampNat a b x, if clampNat a b x = x then 0 else 1)

/-- A channel's tuning values clamped, and how many changed. -/
def clampChannel (c : ChannelPlan) : ChannelPlan × Nat :=
  let nmin := clampCount 16 65535 c.nmin
  let clip := clampCount 0 65535 c.clipLimit
  let th := clampCount 1 32767 c.th
  let hdt := clampCount 1 4096 c.hdt
  let hlt := clampCount 0 65535 c.hlt
  let dmin := clampCount 1 4096 c.dmin
  ({ c with nmin := nmin.1, clipLimit := clip.1, th := th.1, hdt := hdt.1, hlt := hlt.1, dmin := dmin.1 },
    nmin.2 + clip.2 + th.2 + hdt.2 + hlt.2 + dmin.2)

/-- A profile's tuning values clamped, and how many changed; the thresholds are never clamped. -/
def clampProfile (p : ProfilePlan) : ProfilePlan × Nat :=
  let xd := clampCount 0 4095 p.xd
  let hw := clampCount 1 15 p.hitWeight
  let d := clampCount 1 8 p.d
  let w := clampCount 2 8 p.w
  let k := clampCount 1 7 p.confirmations
  let delay := clampCount 1 7 p.delay
  ({ p with xd := xd.1, hitWeight := hw.1, d := d.1, w := w.1, confirmations := k.1, delay := delay.1 },
    xd.2 + hw.2 + d.2 + w.2 + k.2 + delay.2)

/-- The plan with every tuning value clamped into its range, and the clamped-value count (saturating at 65535). -/
def clampPlan (p : Plan) : Plan × Nat :=
  let channels := p.channels.map clampChannel
  let profiles := p.profiles.map clampProfile
  let limit := clampCount 100 30000 p.windowLimit
  let silence := clampCount 5 1000 p.silenceLimit
  let w := clampCount 0 255 p.pulseW
  let e := clampCount 0 3 p.pulseP
  ({ p with
      channels := channels.map Prod.fst
      profiles := profiles.map Prod.fst
      windowLimit := limit.1
      silenceLimit := silence.1
      pulseW := w.1
      pulseP := e.1 },
    min 65535 ((channels.map Prod.snd).sum + (profiles.map Prod.snd).sum + limit.2 + silence.2 + w.2 + e.2))

/-- The fault of a plan header, or none (R146). -/
def headerFault (ws : List Word) : PlanFault :=
  if planWord ws 0 ≠ Config.planIdentifier || bitsAt (planWord ws 1) 0 16 ≠ 1 then .id
  else if !within 4 2048 (bitsAt (planWord ws 2) 0 16) then .length
  else .none

/-- What the loader makes of a whole plan of `len` words at anchor base `base` (R147, R148): a fault reason, or the
clamped plan with its clamped-value count. -/
def judgePlan (ws : List Word) (len base : Nat) : Except PlanFault (Plan × Nat) :=
  match planSections ws len with
  | none => .error .length
  | some starts =>
    let p := readPlan ws starts
    match structuralFault ws base starts p with
    | .none => .ok (clampPlan p)
    | f => .error f

end Sys2Proof.Machine
end

