-- ==== Sys2Proof/Machine/Assemblers.lean ====
section
/-! DEFINITION. The frame assemblers (chapter 2): what a controller write word inside a capture ring does. -/

namespace Sys2Proof.Machine

/-- Assembler `i`. -/
def State.assembler (s : State) (i : Nat) : Assembler := s.asm.getD i .start

/-- Assembler `i` becomes `a`. -/
def State.setAssembler (s : State) (i : Nat) (a : Assembler) : State := s.setAsm (s.asm.set i a)

/-- The tracker is OPEN (R32). -/
def State.isOpen (s : State) : Bool := s.tracker.state == .opened

/-- Whether a byte address is a word of the window's ring. -/
def WindowPlan.inRing (w : WindowPlan) (a : Nat) : Bool := w.base ≤ a && a < w.base + w.ringBytes

/-- Whether an address of the ring is a frame-start address (R16). -/
def WindowPlan.frameStart (w : WindowPlan) (a : Nat) : Bool := (a - w.base) % (4 * w.frameWords) = 0

/-- The word of the ring after the one at `a`: it wraps from the end of the ring to the ring base (R22). -/
def WindowPlan.nextWord (w : WindowPlan) (a : Nat) : Nat := w.base + (a - w.base + 4) % w.ringBytes

/-- A valid header: its sync tag is A6h, its channel count is n and its scans field is S (R21). -/
def WindowPlan.validHeader (w : WindowPlan) (d : Word) : Bool :=
  bitsAt d 24 8 = Config.syncTag && bitsAt d 8 8 = w.chans.length && bitsAt d 0 8 = w.scans

/-- The sequence number of a header (11.3). -/
def headerSeq (d : Word) : Nat := bitsAt d 16 8

/-- A frame starts with header `d` at `a` (R21). -/
def startFrame (w : WindowPlan) (a : Nat) (d : Word) (x : Assembler) : Assembler :=
  { x with state := .assemble, collected := [d], expected := w.nextWord a }

/-- The assembler hunts for a frame start: nothing collected, last sequence number none. -/
def toHunt (x : Assembler) : Assembler := { x with state := .hunt, collected := [], lastSeq := none }

/-- The partial frame, if any, is dropped and counted as broken while the tracker is OPEN (R24, R25, R32). -/
def dropPartial (isOpen : Bool) (x : Assembler) : Assembler :=
  if isOpen && !x.collected.isEmpty then { x with collected := [], broken := satAdd 255 x.broken 1 }
  else { x with collected := [] }

/-- A CAPTURE FAULT notice of window `i` is raised, and placed as far as there is room (R33). -/
def raiseCaptureFault (i : Nat) (f : CaptureFault) (s : State) : State :=
  settle (raiseNotice none (s.notice .captureFault i f.code) s)

/-- A format fault (R23): the assembler hunts; while OPEN it counts a broken frame, and the first since the open
raises a notice (R33). -/
def formatFault (i : Nat) (s : State) : State :=
  let x := toHunt (s.assembler i)
  if s.isOpen then
    let s' := s.setAssembler i { x with broken := satAdd 255 x.broken 1, formatRaised := true }
    if x.formatRaised then s' else raiseCaptureFault i .format s'
  else s.setAssembler i x

/-- The sequence check of a completed frame with sequence number `q` (R26). -/
def sequenceCheck (isOpen : Bool) (q : Nat) (x : Assembler) : Assembler :=
  match x.lastSeq with
  | none => { x with lastSeq := some q }
  | some p =>
    { x with lastSeq := some q, gap := if isOpen then satAdd 255 x.gap (subMod q (p + 1) 256) else x.gap }

/-- The silence timer restarts at a completion, while it runs and the latch is clear (R30). -/
def restartSilence (x : Assembler) : Assembler :=
  if x.silenceLatch then x else { x with silenceTimer := x.silenceTimer.map fun _ => 0 }

/-- A complete frame is offered for staging (R27): slot 0 first (entry 15), then slot 1, otherwise it is discarded. -/
def offerFrame (i : Nat) (f : Frame) (s : State) : State :=
  let x := s.assembler i
  match x.slot0, x.slot1 with
  | none, _ => s.setAssembler i { x with slot0 := some f }
  | some _, none => s.setAssembler i { x with slot1 := some f }
  | some _, some _ =>
    if s.isOpen then
      let s' := s.setAssembler i { x with overrun := satAdd 255 x.overrun 1, overrunRaised := true }
      if x.overrunRaised then s' else raiseCaptureFault i .overrun s'
    else s

/-- The last word of a frame completes it (R22, R26, R27, R30). -/
def completeFrame (i : Nat) (words : List Word) (s : State) : State :=
  let x := restartSilence (sequenceCheck s.isOpen (headerSeq (words.getD 0 0)) { s.assembler i with collected := [] })
  offerFrame i { words := words, order := s.eval.frames }
    ((s.setAssembler i x).setEval { s.eval with frames := s.eval.frames + 1 })

/-- A full-lane write at the expected address (R22, R23). -/
def expectedWord (i : Nat) (w : WindowPlan) (a : Nat) (d : Word) (s : State) : State :=
  let x := s.assembler i
  if x.collected.isEmpty then
    if w.validHeader d then s.setAssembler i (startFrame w a d x) else formatFault i s
  else
    let words := x.collected ++ [d]
    let s' := s.setAssembler i { x with collected := words, expected := w.nextWord a }
    if words.length < w.frameWords then s' else completeFrame i words s'

/-- A full-lane write elsewhere in the ring (R24). -/
def sequenceBreak (i : Nat) (w : WindowPlan) (a : Nat) (d : Word) (s : State) : State :=
  let x := dropPartial s.isOpen (s.assembler i)
  if w.frameStart a && w.validHeader d then s.setAssembler i (startFrame w a d x) else s.setAssembler i (toHunt x)

/-- Assembler `i` of window `w` examines one write word at byte address `a` of its ring (R19, R21 to R25). -/
def examineRingWord (i : Nat) (w : WindowPlan) (a : Nat) (d : WriteWord) (s : State) : State :=
  let x := s.assembler i
  match x.state with
  | .hunt =>
    if d.lanes = 15 && w.frameStart a && w.validHeader d.data then s.setAssembler i (startFrame w a d.data x) else s
  | .assemble =>
    if d.lanes ≠ 15 then s.setAssembler i (toHunt (dropPartial s.isOpen x))
    else if a = x.expected then expectedWord i w a d.data s
    else sequenceBreak i w a d.data s

/-- What a window open does to an assembler of a defined window: latch, counts and marks cleared, the silence timer
started at 0 (R7, R30, R32, R33). -/
def Assembler.windowOpened (x : Assembler) : Assembler :=
  { x with silenceTimer := some 0, silenceLatch := false, overrun := 0, broken := 0, gap := 0, overrunRaised := false,
           formatRaised := false }

/-- The first `n` assemblers, those of the defined windows, at a window open. -/
def openAssemblers : Nat → List Assembler → List Assembler
  | _, [] => []
  | 0, xs => xs
  | n + 1, x :: xs => x.windowOpened :: openAssemblers n xs

/-- The silence timers stop at a close or an abandon; latches and counts are held (R30, R11). -/
def stopSilence (xs : List Assembler) : List Assembler := xs.map fun x => { x with silenceTimer := none }

end Sys2Proof.Machine
end

