-- ==== Sys2Proof/Machine/Channels.lean ====
section
/-! DEFINITION. The channel evaluator (chapter 3): unpacking frames, accumulation, hit detection, and the channel
close with its outcome, variance, RMS, offset and held result set. -/

namespace Sys2Proof.Machine

/-! ## Unpacking a frame (R17, R18) -/

/-- The two samples of a PAIR16 word, earlier first (R17). -/
def pairSamples (h : HalfOrder) (w : Word) : List Int :=
  match h with
  | .firstLow => [signed16 (bitsAt w 0 16), signed16 (bitsAt w 16 16)]
  | .firstHigh => [signed16 (bitsAt w 16 16), signed16 (bitsAt w 0 16)]

/-- The signed number that the low 24 bits of a word spell. -/
def signed24 (v : Nat) : Int :=
  if v % 16777216 < 8388608 then (v % 16777216 : Nat) else ((v % 16777216 : Nat) : Int) - 16777216

/-- A SOLO24 sample reduced to 16 bits: floor(x / 256) (R18). -/
def soloSample (w : Word) : Int := (signed24 (bitsAt w 0 24)).fdiv 256

/-- The samples of one scan with their channels, in list order; padding reaches no channel (R17, R18). -/
def scanSamples (w : WindowPlan) (words : List Word) : List (Nat × Int) :=
  match w.packing with
  | .pair16 => w.chans.zip (words.flatMap (pairSamples w.half))
  | .solo24 => w.chans.zip (words.map soloSample)

/-- The samples of `n` scans, scan by scan (R29). -/
def scansSamples (w : WindowPlan) : Nat → List Word → List (Nat × Int)
  | 0, _ => []
  | n + 1, words => scanSamples w (words.take w.scanWords) ++ scansSamples w n (words.drop w.scanWords)

/-- The samples of a frame, header first (R16). -/
def frameSamples (w : WindowPlan) (f : Frame) : List (Nat × Int) := scansSamples w w.scans (f.words.drop 1)

/-! ## Hit detection (R38 to R43) -/

/-- A hit ends (R41): it is counted, and qualified with its peak if its duration is at least Dmin. -/
def countHit (c : ChannelPlan) (a : Accum) : Accum :=
  if c.dmin ≤ a.det.lastOver - a.det.first + 1 then
    { a with hits := satAdd 65535 a.hits 1, qualified := satAdd 255 a.qualified 1, peak := max a.peak a.det.peak }
  else { a with hits := satAdd 65535 a.hits 1 }

/-- The detector after a hit that ended at a sample: LOCKOUT of HLT samples, or QUIET if HLT is 0 (R41). -/
def afterHit (c : ChannelPlan) (d : Detector) : Detector :=
  if c.hlt = 0 then { d with state := .quiet } else { d with state := .lockout, lockout := c.hlt }

/-- The deviation d = |s - o| (3.3). -/
def deviation (s o : Int) : Nat := (s - o).natAbs

/-- The hit detector is given the sample with index `i` and deviation `dev` (R39, R40, R42). -/
def detect (c : ChannelPlan) (i dev : Nat) (a : Accum) : Accum :=
  match a.det.state with
  | .quiet =>
    if c.th ≤ dev then
      { a with det := { a.det with state := .inHit, first := i, lastOver := i, peak := dev, quiet := 0 } }
    else a
  | .inHit =>
    if c.th ≤ dev then { a with det := { a.det with peak := max a.det.peak dev, lastOver := i, quiet := 0 } }
    else
      let a' := { a with det := { a.det with quiet := a.det.quiet + 1 } }
      if c.hdt ≤ a'.det.quiet then
        let b := countHit c a'
        { b with det := afterHit c b.det }
      else a'
  | .lockout =>
    { a with det := { a.det with
        lockout := a.det.lockout - 1
        state := if a.det.lockout ≤ 1 then .quiet else .lockout } }

/-- A sample at the converter limit (R37). -/
def isClip (x : Int) : Bool := x = -32768 || x = 32767

/-- One sample is accumulated into its channel's set, or sets the long flag once N is 65535 (R37). -/
def accumulate (c : ChannelPlan) (x : Int) (a : Accum) : Accum :=
  if a.n = 65535 then { a with long := true }
  else
    let b := { a with
      n := a.n + 1
      s1 := a.s1 + x
      s2 := a.s2 + x.natAbs * x.natAbs
      clips := if isClip x then satAdd 65535 a.clips 1 else a.clips }
    if c.kind.emits then detect c a.n (deviation x a.offset) b else b

/-- The accumulator set of channel `n`. -/
def Evaluator.accum (e : Evaluator) (n : Nat) : Accum := e.accums.getD n (.cleared 0)

/-- One sample of a frame reaches the set of its channel (R37). -/
def accumulateSample (p : Plan) (e : Evaluator) (x : Nat × Int) : Evaluator :=
  match p.channel x.1 with
  | none => e
  | some c => { e with accums := e.accums.set x.1 (accumulate c x.2 (e.accum x.1)) }

/-- A whole frame of window `w` is accumulated (R29). -/
def accumulateFrame (p : Plan) (w : WindowPlan) (f : Frame) (e : Evaluator) : Evaluator :=
  (frameSamples w f).foldl (accumulateSample p) e

/-! ## The staging arbiter (R28) -/

/-- The staged frames: window, slot 1?, frame. -/
def stagedFrames : Nat → List Assembler → List (Nat × Bool × Frame)
  | _, [] => []
  | i, x :: xs =>
    (x.slot0.map fun f => (i, false, f)).toList ++ (x.slot1.map fun f => (i, true, f)).toList ++ stagedFrames (i + 1) xs

/-- The earlier-completed of two staged frames. -/
def earlier (x y : Nat × Bool × Frame) : Nat × Bool × Frame := if y.2.2.order < x.2.2.order then y else x

/-- The FULL slot, among all eight, whose frame completed earliest (R28). -/
def earliestFrame (xs : List Assembler) : Option (Nat × Bool × Frame) :=
  match stagedFrames 0 xs with
  | [] => none
  | x :: r => some (r.foldl earlier x)

/-- A staging slot becomes EMPTY. -/
def emptySlot (i : Nat) (second : Bool) (s : State) : State :=
  let x := s.assembler i
  s.setAssembler i (if second then { x with slot1 := none } else { x with slot0 := none })

/-- The evaluator stops working on its frame, if any, and the frame's slot becomes EMPTY (R29). -/
def dropBusy (s : State) : State :=
  match s.eval.busy with
  | none => s
  | some (i, second) => (emptySlot i second s).setEval { s.eval with busy := none }

/-! ## Channel close (R44 to R51) -/

/-- The variance V (R46). -/
def variance (n : Nat) (s1 : Int) (s2 : Nat) : Nat :=
  if n = 0 then 0 else (n * s2 - s1.natAbs * s1.natAbs) / (n * n)

/-- The offset of a GOOD channel: S1 / N truncated toward zero (R48). -/
def meanOffset (n : Nat) (s1 : Int) : Int := s1.tdiv (n : Int)

/-- The outcome of a channel: the first test of R45 that applies. -/
def outcomeOf (latch : Bool) (c : ChannelPlan) (a : Accum) : Outcome :=
  if latch then .silent
  else if a.n < c.nmin then .few
  else if c.clipLimit < a.clips then .clipped
  else if variance a.n a.s1 a.s2 = 0 then .flat
  else .good

/-- A detector still IN HIT at the close ends its hit, and leaves no lockout (R43, R41). -/
def closeHit (c : ChannelPlan) (a : Accum) : Accum :=
  match a.det.state with
  | .inHit =>
    let b := countHit c a
    { b with det := { b.det with state := .quiet } }
  | .quiet => a
  | .lockout => a

/-- What the channel close gives for one channel. -/
structure ChanResult where
  number : Nat
  kind : ChannelKind
  outcome : Outcome
  rms : Nat
  acc : Accum
  deriving DecidableEq, Repr

/-- The channel close of channel `c` (R44). -/
def closeChannel (s : State) (p : Plan) (c : ChannelPlan) : ChanResult :=
  let a := closeHit c (s.eval.accum c.number)
  { number := c.number
    kind := c.kind
    outcome := outcomeOf (s.assembler (p.windowOf c.number)).silenceLatch c a
    rms := isqrt (variance a.n a.s1 a.s2)
    acc := a }

/-- The results of every defined channel in ascending channel number (R44). -/
def closeChannels (s : State) (p : Plan) : List ChanResult :=
  (p.definedChans.filterMap p.channel).map (closeChannel s p)

/-- The result of channel `n`. -/
def resultOf (rs : List ChanResult) (n : Nat) : Option ChanResult := rs.find? fun r => r.number == n

/-- The outcome of channel `n`. -/
def outcomeAt (rs : List ChanResult) (n : Nat) : Option Outcome := (resultOf rs n).map fun r => r.outcome

/-- Channel `n` is GOOD at this close. -/
def isGood (rs : List ChanResult) (n : Nat) : Bool := outcomeAt rs n == some .good

/-- The accumulator sets with their final values (R36: the sets keep them until the next open). -/
def finalAccums (rs : List ChanResult) (xs : List Accum) : List Accum :=
  rs.foldl (fun ys r => ys.set r.number r.acc) xs

/-- The held entry of channel `n` (R51). -/
def heldEntry (rs : List ChanResult) (n : Nat) : HeldEntry :=
  match resultOf rs n with
  | none => { n := 0, rms := 0, qualified := 0, hits := 0, peak := 0, clips := 0, outcome := none, long := false }
  | some r =>
    { n := r.acc.n, rms := r.rms, qualified := r.acc.qualified, hits := r.acc.hits, peak := r.acc.peak,
      clips := r.acc.clips, outcome := some r.outcome, long := r.acc.long }

/-- The held result set of 64 entries (R51). -/
def heldSet (rs : List ChanResult) : List HeldEntry := (List.range 64).map (heldEntry rs)

/-- The channel part of the active context after the close: offset (R48) and responsive flag (R49). -/
def closeChannelCtx (rs : List ChanResult) (c : ChannelCtx) : ChannelCtx :=
  match resultOf rs c.number with
  | none => { c with responsive := false }
  | some r =>
    { c with
      offset := if r.outcome = .good then meanOffset r.acc.n r.acc.s1 else c.offset
      responsive := r.outcome == .good }

/-- The notice of a responsive flag that changes (R49). -/
def channelNotice (s : State) (rs : List ChanResult) (c : ChannelCtx) : Option Notice :=
  match resultOf rs c.number with
  | none => none
  | some r =>
    match c.responsive, r.outcome == .good with
    | true, false => some (s.notice .channelLost c.number r.outcome.code)
    | false, true => some (s.notice .channelBack c.number 0)
    | true, true => none
    | false, false => none

/-- Whether a channel of the profile has its long flag set (R50). -/
def someLong (rs : List ChanResult) (q : ProfilePlan) : Bool :=
  rs.any fun r => r.acc.long && q.chans.contains r.number

/-! ## Window open (R36, R38) -/

/-- The offset in use for channel `n`: the active context's offset, 0 for a channel outside the profile (R38). -/
def offsetInUse (c : Context) (n : Nat) : Int :=
  match c.channels.find? fun x => x.number == n with
  | some x => x.offset
  | none => 0

/-- The cleared sets of a window that opens for context `c` (R36, R38). -/
def openAccums (c : Context) : List Accum := (List.range 64).map fun n => Accum.cleared (offsetInUse c n)

/-! ## The channel dump (R53) -/

/-- The four words of dump entry `n` (11.7). -/
def dumpWords (p : Plan) (n : Nat) (h : HeldEntry) : List Word :=
  match p.channel n, h.outcome with
  | some c, some o =>
    [mkWord [fld h.n 0 16, fld h.rms 16 16],
     mkWord [fld h.hits 0 16, fld h.qualified 16 8, fld o.code 24 3, flag h.long 27],
     mkWord [fld h.peak 0 16, fld h.clips 16 16],
     mkWord [fld c.kind.code 0 2, fld (p.windowOf n) 2 2]]
  | some _, none => [0, 0, 0, 0]
  | none, _ => [0, 0, 0, 0]

/-- POST entries for words at ascending addresses. -/
def postEntries (a : Nat) (ws : List Word) : List Entry := (wordsFrom a ws).map fun x => .post x.1 x.2 0

/-- The 256 POST entries of a dump at address `a` (R53). -/
def dumpEntries (p : Plan) (held : List HeldEntry) (a : Nat) : List Entry :=
  postEntries a ((held.zipIdx).flatMap fun x => dumpWords p x.2 x.1)

end Sys2Proof.Machine
end

