-- ==== Sys2Proof/Machine/CaptureCommands.lean ====
section
/-! DEFINITION. The channel evaluator takes and finishes frames (R28, R29). A frame taken while OPEN is accumulated in
this step, and its slot becomes EMPTY when the evaluator finishes with it (entry 17). -/

namespace Sys2Proof.Machine

/-- The staged frame in slot (`i`, `second`) is taken (R29). -/
def takeFrame (i : Nat) (second : Bool) (f : Frame) (s : State) : State :=
  match s.runningPlan with
  | some pl =>
    match s.isOpen, pl.windows[i]? with
    | true, some w => s.setEval { accumulateFrame pl w f s.eval with busy := some (i, second) }
    | true, none => emptySlot i second s
    | false, _ => emptySlot i second s
  | none => emptySlot i second s

/-- FRAME_TAKEN (R28, R29): no effect while the evaluator works on a frame or none is staged. -/
def execFrameTaken (s : State) : Host.Outcome State Fault Refusal :=
  .next (if s.resetLow then s
    else
      match s.eval.busy, earliestFrame s.asm with
      | none, some x => takeFrame x.1 x.2.1 x.2.2 s
      | none, none => s
      | some _, _ => s)

/-- FRAME_FINISHED (R29): the last sample has been accumulated, and the slot becomes EMPTY. -/
def execFrameFinished (s : State) : Host.Outcome State Fault Refusal :=
  .next (if s.resetLow then s else dropBusy s)

end Sys2Proof.Machine
end

