-- ==== Sys2Proof/Machine/Cavities.lean ====
section
/-! DEFINITION. The cavity close, step 2 of close processing (chapters 4 and 5): binding, ratios, row medians,
evidence, score, state and baselines. -/

namespace Sys2Proof.Machine

/-! ## Pass 1: considered slots and ratios -/

/-- Slot `k` is usable at this close, with `bound` the cavity's bound slot (R58). -/
def usable (rs : List ChanResult) (p : CavityPlan) (c : CavityCtx) (bound : Option (Fin 4)) (k : Fin 4) : Bool :=
  p.has k && isGood rs (p.chan k) && (c.enables.getLsbD k.val || bound == some k)

/-- The binding that is lost at this close (R60). -/
def lostBinding (rs : List ChanResult) (p : CavityPlan) (c : CavityCtx) : Option (Fin 4) :=
  match c.bound with
  | none => none
  | some b => if isGood rs (p.chan b) then none else some b

/-- The bound slot after pass 1 (R60). -/
def boundAfterLoss (rs : List ChanResult) (p : CavityPlan) (c : CavityCtx) : Option (Fin 4) :=
  match lostBinding rs p c with
  | none => c.bound
  | some _ => none

/-- The considered slots (R59). -/
def considered (rs : List ChanResult) (p : CavityPlan) (c : CavityCtx) : List (Fin 4) :=
  match boundAfterLoss rs p c with
  | some b => [b]
  | none => slots4.filter (usable rs p c none)

/-- The slot part of slot `k` (R97). -/
def CavityCtx.slot (c : CavityCtx) (k : Fin 4) : SlotCtx := c.slots.getD k.val { b := 0, n := 0 }

/-- The ratio q of RMS and baseline B in 1/256 units (R63). -/
def ratio (rms b : Nat) : Nat := min 65535 (rms * 4096 / max b 16)

/-- The ratio of considered slot `k`, if it has one (R63). -/
def slotRatio (rs : List ChanResult) (p : CavityPlan) (c : CavityCtx) (k : Fin 4) : Option Nat :=
  match resultOf rs (p.chan k) with
  | none => none
  | some r => if r.kind.vibrates && 1 ≤ (c.slot k).n then some (ratio r.rms (c.slot k).b) else none

/-- The largest of some values. -/
def largest : List Nat → Option Nat
  | [] => none
  | x :: xs => some (xs.foldl max x)

/-- The cavity q: the largest ratio among the considered slots (R64). -/
def cavityQ (rs : List ChanResult) (p : CavityPlan) (c : CavityCtx) : Option Nat :=
  if c.state = .excluded then none else largest ((considered rs p c).filterMap (slotRatio rs p c))

/-! ## Pass 2: row medians -/

/-- The median of the values of a group's members (R66). -/
def medianOf (values : List Nat) : Nat :=
  let v := sortAscending values
  let n := v.length
  if n < 3 then 256
  else if n % 2 = 1 then v.getD (n / 2) 0
  else (v.getD (n / 2 - 1) 0 + v.getD (n / 2) 0) / 2

/-- The median of group `g` (R65, R66). -/
def groupMedian (rs : List ChanResult) (cs : List (CavityPlan × CavityCtx)) (g : Nat) : Nat :=
  medianOf ((cs.filter fun x => x.1.group == g).filterMap fun x => cavityQ rs x.1 x.2)

/-! ## Pass 3: evidence, score, state and baselines -/

/-- The vibration term (R76). -/
def vibrationTerm (q : Option Nat) (m xd : Nat) : Nat :=
  match q with
  | none => 0
  | some q => min 255 (q - m - xd)

/-- The emission term (R77). -/
def emissionTerm (rs : List ChanResult) (weight chan : Nat) : Nat :=
  match resultOf rs chan with
  | none => 0
  | some r => if r.kind.emits then min 255 (r.acc.qualified * weight) else 0

/-- The working values of a considered slot: ratio and the two terms. -/
structure SlotWork where
  slot : Fin 4
  ratio : Option Nat
  v : Nat
  a : Nat
  deriving DecidableEq, Repr

/-- The terms of considered slot `k` (R76, R77). -/
def slotWork (rs : List ChanResult) (q : ProfilePlan) (m : Nat) (p : CavityPlan) (c : CavityCtx) (k : Fin 4) : SlotWork :=
  { slot := k
    ratio := slotRatio rs p c k
    v := vibrationTerm (slotRatio rs p c k) m q.xd
    a := emissionTerm rs q.hitWeight (p.chan k) }

/-- The better of two considered slots in ascending order: ties stay with the lower (R68). -/
def betterSlot (x y : SlotWork) : SlotWork := if x.v + x.a < y.v + y.a then y else x

/-- The dominant slot (R68), none for a blind cavity. -/
def dominant : List SlotWork → Option SlotWork
  | [] => none
  | x :: xs => some (xs.foldl betterSlot x)

/-- The evidence of the dominant slot's sum (R78). -/
def evidenceOf (x : SlotWork) : Nat := min 255 (x.v + x.a)

/-- The new score S' (R81). -/
def newScore (d score e : Nat) : Nat := min 65535 (score - score / 2 ^ d + e)

/-- A LEARNING cavity that is not blind (R82). -/
def learnStep (q : ProfilePlan) (c : CavityCtx) : CavityCtx :=
  let n := satAdd 256 c.learned 1
  if 2 ^ q.w ≤ n then { c with learned := n, state := .sound, score := 0, confirm := 0, bound := none }
  else { c with learned := n, confirm := 0, bound := none }

/-- A SOUND or WATCH cavity enters SUSPECT, and CRACKED at once with K confirmations (R85, R87). -/
def enterSuspect (q : ProfilePlan) (dom : Fin 4) (c : CavityCtx) : CavityCtx :=
  let n := if q.t3 ≤ c.score then 1 else 0
  { c with state := if q.confirmations ≤ n then .cracked else .suspect, bound := some dom, confirm := n }

/-- A SUSPECT cavity (R86); `c` carries the new score. -/
def suspectStep (q : ProfilePlan) (c : CavityCtx) : CavityCtx :=
  if q.t3 ≤ c.score then
    let n := satAdd 7 c.confirm 1
    { c with confirm := n, state := if q.confirmations ≤ n then .cracked else .suspect }
  else if q.t2 - q.h ≤ c.score then { c with confirm := 0 }
  else if q.t1 - q.h ≤ c.score then { c with state := .watch, confirm := 0, bound := none }
  else { c with state := .sound, confirm := 0, bound := none }

/-- The state step for a cavity that is not LEARNING (R83 to R87); `c` carries the new score. -/
def stateStep (q : ProfilePlan) (dom : Fin 4) (c : CavityCtx) : CavityCtx :=
  match c.state with
  | .sound =>
    if q.t2 ≤ c.score then enterSuspect q dom c
    else if q.t1 ≤ c.score then { c with state := .watch, confirm := 0 } else c
  | .watch =>
    if q.t2 ≤ c.score then enterSuspect q dom c
    else if q.t1 - q.h ≤ c.score then c else { c with state := .sound }
  | .suspect => suspectStep q c
  | .cracked => c
  | .learning => c
  | .excluded => c

/-- The baseline update of one slot (R90). -/
def updateBaseline (w rms : Nat) (x : SlotCtx) : SlotCtx :=
  let n := min (x.n + 1) (2 ^ w)
  { n := n, b := (clampInt 0 524288 ((x.b : Int) + ((16 * rms : Nat) - (x.b : Int)).fdiv n)).toNat }

/-- The baseline update of considered slot `k`, if it lies on a VIB or BOTH channel (R90, R91). -/
def updateSlot (rs : List ChanResult) (w : Nat) (p : CavityPlan) (c : CavityCtx) (k : Fin 4) : CavityCtx :=
  match resultOf rs (p.chan k) with
  | none => c
  | some r => if r.kind.vibrates then { c with slots := c.slots.set k.val (updateBaseline w r.rms (c.slot k)) } else c

/-- Whether a cavity in this state updates its baselines (R90). -/
def CavState.learns : CavState → Bool
  | .learning => true
  | .sound => true
  | .watch => false
  | .suspect => false
  | .cracked => false
  | .excluded => false

/-- What the close of one cavity hands on (R92): the cavity before and after, what was considered, and its values. -/
structure CavOut where
  number : Nat
  plan : CavityPlan
  before : CavityCtx
  after : CavityCtx
  lost : Option (Fin 4)
  slots : List SlotWork
  evidence : Nat
  v : Nat
  a : Nat
  q : Option Nat
  median : Nat
  deriving DecidableEq, Repr

/-- A blind cavity at the close (R79, R80). -/
def closeBlind (rs : List ChanResult) (p : CavityPlan) (c : CavityCtx) : CavityCtx :=
  { c with bound := boundAfterLoss rs p c, blind := true }

/-- A cavity that is seen, with dominant slot `dom`: steps 2 to 5 of R75. -/
def closeSeen (rs : List ChanResult) (q : ProfilePlan) (p : CavityPlan) (c : CavityCtx) (dom : SlotWork) : CavityCtx :=
  let c1 := { c with bound := boundAfterLoss rs p c, blind := false, reported := some dom.slot }
  let c2 :=
    if c.state = .learning then learnStep q c1
    else stateStep q dom.slot { c1 with score := newScore q.d c.score (evidenceOf dom) }
  if c2.state.learns then (considered rs p c).foldl (updateSlot rs q.w p) c2 else c2

/-- Pass 3 for cavity `i` (R75), with the medians of pass 2. -/
def closeCavity (rs : List ChanResult) (q : ProfilePlan) (median : Nat → Nat) (i : Nat) (p : CavityPlan) (c : CavityCtx) :
    CavOut :=
  let m := median p.group
  let works := (considered rs p c).map (slotWork rs q m p c)
  match dominant works with
  | none =>
    { number := i, plan := p, before := c, after := closeBlind rs p c, lost := lostBinding rs p c, slots := [],
      evidence := 0, v := 0, a := 0, q := none, median := m }
  | some dom =>
    { number := i, plan := p, before := c, after := closeSeen rs q p c dom, lost := lostBinding rs p c, slots := works,
      evidence := evidenceOf dom, v := dom.v, a := dom.a, q := cavityQ rs p c, median := m }

/-- An EXCLUDED cavity is passed over whole (R88): nothing about it changes. -/
def passOver (i : Nat) (p : CavityPlan) (c : CavityCtx) : CavOut :=
  { number := i, plan := p, before := c, after := c, lost := none, slots := [], evidence := 0, v := 0, a := 0, q := none,
    median := 256 }

/-- The cavity close (R57): every cavity of the profile in ascending number. -/
def closeCavities (rs : List ChanResult) (q : ProfilePlan) (c : Context) : List CavOut :=
  let cs := q.cavities.zip c.cavities
  cs.zipIdx.map fun x =>
    if x.1.2.state = .excluded then passOver x.2 x.1.1 x.1.2
    else closeCavity rs q (groupMedian rs cs) x.2 x.1.1 x.1.2

/-- The cavity is evaluated at the close, that is, not EXCLUDED. -/
def CavOut.evaluated (o : CavOut) : Bool := o.before.state != .excluded

/-- The cavity entered CRACKED at this close (R87, R112). -/
def CavOut.enteredCracked (o : CavOut) : Bool := o.before.state != .cracked && o.after.state == .cracked

/-- The changes that make a record in ON CHANGE mode (R125). -/
def CavOut.stateChanged (o : CavOut) : Bool := o.before.state != o.after.state
def CavOut.blindChanged (o : CavOut) : Bool := o.before.blind != o.after.blind
def CavOut.boundChanged (o : CavOut) : Bool := o.before.bound != o.after.bound
def CavOut.reportedChanged (o : CavOut) : Bool := o.before.reported != o.after.reported
def CavOut.changed (o : CavOut) : Bool :=
  o.stateChanged || o.blindChanged || o.boundChanged || o.reportedChanged || o.lost.isSome

/-- The detail of a CAVITY STATE notice (11.7). -/
def stateDetail (old new : CavState) : Nat := old.code + 256 * new.code

/-- The notices of one cavity, in the order BINDING LOST, BLIND CHANGE, CAVITY STATE (R60, R80, R89, R92). -/
def CavOut.notices (s : State) (o : CavOut) : List Notice :=
  (match o.lost with
    | some b => [s.notice .bindingLost o.number b.val]
    | none => [])
  ++ (if o.blindChanged then [s.notice .blindChange o.number (if o.after.blind then 1 else 0)] else [])
  ++ (if o.stateChanged then [s.notice .cavityState o.number (stateDetail o.before.state o.after.state)] else [])

/-- A marking cavity of the close (R116). -/
def marks (q : ProfilePlan) (o : CavOut) : Bool :=
  match o.after.state with
  | .cracked => q.markOnCrack
  | .suspect => q.markOnSuspect
  | .learning => false
  | .sound => false
  | .watch => false
  | .excluded => false

end Sys2Proof.Machine
end

