-- ==== Sys2Proof/Machine/Verdicts.lean ====
section
/-! DEFINITION. The verdict window, the banks and the records (chapter 8, 11.5, 11.6). -/

namespace Sys2Proof.Machine

/-! ## Banks -/

/-- The cavity verdict word (11.5). -/
def verdictWord (c : CavityCtx) : Word :=
  mkWord [fld c.score 0 16, fld c.state.code 16 3, flag c.blind 19, flag c.bound.isSome 20,
    fld (match c.bound with
      | some b => b.val
      | none => 0) 21 2,
    fld (slotCode c.reported) 24 3, fld c.confirm 28 3, flag true 31]

/-- The verdict words of cavities 0..47; zero for a cavity that does not exist (R122). -/
def cavityWords (c : Context) : List Word :=
  (List.range 48).map fun i =>
    match c.cavities[i]? with
    | some x => verdictWord x
    | none => 0

/-- How many cavities of a context are in a state. -/
def stateCount (c : Context) (s : CavState) : Nat := c.cavities.countP fun x => x.state == s

/-- Bank word 1 (11.5): cycle number, profile, bank kind, late start, long. -/
def bankWord1 (cycle profile kind : Nat) (late long : Bool) : Word :=
  mkWord [fld cycle 0 16, fld profile 16 2, fld kind 20 2, flag late 24, flag long 25]

/-- Bank word 2: SOUND, WATCH, SUSPECT, CRACKED. -/
def bankWord2 (c : Context) : Word :=
  mkWord [fld (stateCount c .sound) 0 8, fld (stateCount c .watch) 8 8, fld (stateCount c .suspect) 16 8,
    fld (stateCount c .cracked) 24 8]

/-- Bank word 3: LEARNING, EXCLUDED, blind, evaluated. -/
def bankWord3 (c : Context) (blind evaluated : Nat) : Word :=
  mkWord [fld (stateCount c .learning) 0 8, fld (stateCount c .excluded) 8 8, fld blind 16 8, fld evaluated 24 8]

/-- Bank words 4 to 7: the medians of groups 0..7, two to a word (R67). -/
def medianWords (m : Nat → Nat) : List Word :=
  (List.range 4).map fun j => mkWord [fld (m (2 * j)) 0 16, fld (m (2 * j + 1)) 16 16]

/-- Bank words 56 and 57: the responsive flags (R50). -/
def responsiveWords (c : Context) : List Word :=
  let on := (c.channels.filter fun x => x.responsive).map fun x => x.number
  [channelMask on 0, channelMask on 1]

/-- Bank words 60 to 63: the counts and latch of each capture window (R32). -/
def windowWords (xs : List Assembler) : List Word :=
  (List.range 4).map fun i =>
    let x := xs.getD i .start
    mkWord [fld x.overrun 0 8, fld x.broken 8 8, fld x.gap 16 8, flag x.silenceLatch 24]

/-- A bank: words 1..57 and 60..63 of the verdict window. -/
def bankOf (w1 w2 w3 : Word) (c : Context) (m : Nat → Nat) (windows : List Word) : List Word :=
  [w1, w2, w3] ++ medianWords m ++ cavityWords c ++ responsiveWords c ++ windows

/-- The close bank (R122), built from the context after step 2 and the working values of the close. -/
def closeBank (s : State) (p : Nat) (c : Context) (outs : List CavOut) (median : Nat → Nat) (long : Bool) : List Word :=
  bankOf (bankWord1 s.tracker.openCycle p 1 s.tracker.lateStart long) (bankWord2 c)
    (bankWord3 c (outs.countP fun o => o.evaluated && o.after.blind) (outs.countP fun o => o.evaluated && !o.after.blind))
    c median (windowWords s.asm)

/-- The activation bank of profile `p` with context `c` (R123). -/
def activationBank (s : State) (p : Nat) (c : Context) : List Word :=
  bankOf (bankWord1 (match s.tracker.last with
      | some w => w.cycle
      | none => 0) p 2 false false)
    (bankWord2 c) (bankWord3 c (c.cavities.countP fun x => x.blind) 0) c (fun _ => 256) [0, 0, 0, 0]

/-- Replacing the published bank whole (R124). -/
def setPublished (bank : List Word) (s : State) : State := s.setReport { s.report with published := bank }

/-- The published bank is replaced by the activation bank of profile `p`, if it has a context (R123). -/
def publishActivation (p : Nat) (s : State) : State :=
  match s.table.contexts[p]? with
  | some c => setPublished (activationBank s p c) s
  | none => s

/-- The published bank is replaced by a bank of zeros (R123). -/
def publishZeros (s : State) : State := setPublished zeroBank s

/-! ## Reading the verdict window (R121, R133) -/

/-- Word 0, live (R121): the fault reason shows in NO PLAN only (entry 20). -/
def liveWord (s : State) : Word :=
  mkWord [fld s.loader.run.code 0 2, fld (if s.loader.run = .noPlan then s.loader.fault.code else 0) 4 4,
    fld s.tracker.state.code 8 2, fld (profileCode3 s.tracker.active) 10 3,
    fld (match s.tracker.active, s.loader.plan with
      | some p, some pl => ((pl.profiles[p]?).map fun q => q.mouldId).getD 0
      | some _, none => 0
      | none, _ => 0) 16 4,
    flag s.out.stopLatch 20, flag s.stopLine 21, fld s.out.marks.length 24 4, flag s.out.pulse.isSome 28]

/-- Words 58 and 59, live: the channels the plan defines, while a profile is active (R121). -/
def definedWord (s : State) (half : Nat) : Word :=
  match s.tracker.active, s.loader.plan with
  | some _, some pl => channelMask pl.definedChans half
  | some _, none => 0
  | none, _ => 0

/-- Verdict window word `i` as the overlay serves it (R133). -/
def overlayWord (s : State) (i : Nat) : Word :=
  if i = 0 then liveWord s
  else if i ≤ 57 then s.report.published.getD (i - 1) 0
  else if i = 58 then definedWord s 0
  else if i = 59 then definedWord s 1
  else s.report.published.getD (i - 3) 0

/-! ## Records (R125, 11.6) -/

/-- The channel of the reported slot at this close, if the reported slot is not none. -/
def reportedChan (o : CavOut) : Option Nat := o.after.reported.map fun k => o.plan.chan k

/-- Record words 4 and 5: the figures of the reported slot's channel, zeros when the reported slot is none. -/
def reportedWords (rs : List ChanResult) (o : CavOut) : List Word :=
  match reportedChan o with
  | none => [0, 0]
  | some n =>
    match resultOf rs n with
    | none => [mkWord [fld n 24 6], 0]
    | some r =>
      [mkWord [fld r.rms 0 16, fld r.acc.qualified 16 8, fld n 24 6], mkWord [fld r.acc.peak 0 16, fld r.outcome.code 16 3]]

/-- The eight words of a SHORT record (11.6). -/
def shortRecord (s : State) (p : Nat) (rs : List ChanResult) (o : CavOut) : List Word :=
  [mkWord [fld s.tracker.openCycle 0 16, flag o.stateChanged 16, flag o.blindChanged 17, flag o.boundChanged 18,
      flag o.reportedChanged 19, flag o.lost.isSome 20, flag o.enteredCracked 21, flag s.tracker.lateStart 22,
      flag o.q.isSome 23],
   verdictWord o.after,
   mkWord [fld o.evidence 0 8, fld o.v 8 8, fld o.a 16 8, fld o.number 24 6],
   mkWord [fld (o.q.getD 0) 0 16, fld o.median 16 16]]
  ++ reportedWords rs o ++
  [mkWord [fld o.before.score 0 16, fld o.before.state.code 16 3],
   mkWord [fld s.tracker.openCycle 0 16, fld p 16 2]]

/-- The outcome field of a slot that is not considered: its channel's outcome when the slot is installed and that
outcome is not GOOD, the not-considered code 7 otherwise. -/
def idleOutcome (rs : List ChanResult) (p : CavityPlan) (k : Fin 4) : Nat :=
  match p.has k, outcomeAt rs (p.chan k) with
  | true, some .good => 7
  | true, some x => x.code
  | true, none => 7
  | false, _ => 7

/-- The two slot words of slot `k` in a LONG record (11.6). -/
def slotRecord (rs : List ChanResult) (o : CavOut) (k : Fin 4) : List Word :=
  match o.slots.find? fun x => x.slot == k, resultOf rs (o.plan.chan k) with
  | some x, some r =>
    [mkWord [fld (x.ratio.getD 0) 0 16, fld r.outcome.code 16 3, flag x.ratio.isSome 19, fld r.number 24 6],
     mkWord [fld r.rms 0 16, fld r.acc.qualified 16 8]]
  | some _, none => [mkWord [fld (idleOutcome rs o.plan k) 16 3], 0]
  | none, _ => [mkWord [fld (idleOutcome rs o.plan k) 16 3], 0]

/-- The record of one cavity in the profile's format. -/
def recordWords (s : State) (p : Nat) (q : ProfilePlan) (rs : List ChanResult) (o : CavOut) : List Word :=
  match q.recordFormat with
  | .short => shortRecord s p rs o
  | .long => shortRecord s p rs o ++ slots4.flatMap (slotRecord rs o)

/-- Where the record of a cavity goes (R125). -/
def recordAddr (q : ProfilePlan) (o : CavOut) : Nat :=
  match q.recordFormat with
  | .short => q.recordOrigin + 32 * o.number
  | .long => o.plan.longAddr

/-- Whether a cavity has a record at this close (R125). -/
def hasRecord (q : ProfilePlan) (o : CavOut) : Bool :=
  match q.recordMode with
  | .none => false
  | .every => o.evaluated
  | .onChange => o.evaluated && o.changed

/-- The record words of the close in placing order (R125, R126, R153). -/
def recordItems (s : State) (p : Nat) (q : ProfilePlan) (rs : List ChanResult) (outs : List CavOut) : List StepItem :=
  (outs.filter (hasRecord q)).flatMap fun o =>
    (wordsFrom (recordAddr q o) (recordWords s p q rs o)).map fun x => .post x.1 x.2

end Sys2Proof.Machine
end

