-- ==== Sys2Proof/Machine/Contexts.lean ====
section
/-! DEFINITION. Mould contexts (chapter 6): fresh contexts, images, their checks, and the commit of a restored image. -/

namespace Sys2Proof.Machine

/-! ## Fresh contexts (R98) -/

/-- The cavity part of a fresh context (R56, R74). -/
def freshCavity (c : CavityPlan) : CavityCtx :=
  { state := if c.startsExcluded then .excluded else .learning
    blind := false, score := 0, confirm := 0, learned := 0, bound := none, reported := none, enables := c.enables
    slots := List.replicate 4 { b := 0, n := 0 } }

/-- A fresh context of a profile (R98). -/
def freshContext (q : ProfilePlan) : Context :=
  { cavities := q.cavities.map freshCavity
    channels := q.chans.map fun n => { number := n, offset := 0, responsive := true } }

/-! ## Writing an image (R100, 11.8) -/

/-- The two words of a cavity in an image. -/
def cavityImage (c : CavityCtx) : List Word :=
  [mkWord [fld c.state.code 0 3, flag c.blind 3, fld c.confirm 4 3, fld (slotCode c.bound) 8 3, fld (slotCode c.reported) 12 3,
    fld c.enables.toNat 16 4],
   mkWord [fld c.score 0 16, fld c.learned 16 9]]

/-- The word of a slot in an image. -/
def slotImage (x : SlotCtx) : Word := mkWord [fld x.b 0 20, fld x.n 20 9]

/-- The word of a channel in an image. -/
def channelImage (x : ChannelCtx) : Word := mkWord [fld (unsigned16 x.offset) 0 16, flag x.responsive 16]

/-- The four slot words of a cavity in an image. -/
def slotImages (c : CavityCtx) : List Word := slots4.map fun k => slotImage (c.slot k)

/-- The eight header words (R100, R102). -/
def imageHeader (s : State) (pl : Plan) (q : ProfilePlan) (p : Nat) (kind : SnapshotKind) : List Word :=
  [Config.imageIdentifier,
   mkWord [fld p 0 8, fld q.cavities.length 8 8, fld q.chans.length 16 8],
   mkWord [fld q.layoutSerial 0 16, fld pl.serial 16 16],
   mkWord [fld q.imageWords 0 16],
   channelMask q.chans 0,
   channelMask q.chans 1,
   mkWord [fld s.tracker.openCycle 0 16, fld kind.code 16 2],
   mkWord [fld s.mail.serial 0 8, fld q.mouldId 8 4]]

/-- The image of context `c` of profile `p` (R100). -/
def imageOf (s : State) (pl : Plan) (q : ProfilePlan) (p : Nat) (kind : SnapshotKind) (c : Context) : List Word :=
  imageHeader s pl q p kind ++ c.cavities.flatMap cavityImage ++ c.cavities.flatMap slotImages ++ c.channels.map channelImage

/-! ## Checking and reading an image (R106, R107) -/

/-- The header check of R106. -/
def imageHeaderOk (q : ProfilePlan) (p : Nat) (ws : List Word) : Bool :=
  planWord ws 0 == Config.imageIdentifier
    && bitsAt (planWord ws 1) 0 8 = p
    && bitsAt (planWord ws 1) 8 8 = q.cavities.length
    && bitsAt (planWord ws 1) 16 8 = q.chans.length
    && bitsAt (planWord ws 2) 0 16 = q.layoutSerial
    && bitsAt (planWord ws 3) 0 16 = q.imageWords
    && planWord ws 4 == channelMask q.chans 0
    && planWord ws 5 == channelMask q.chans 1

/-- The slot word of slot `k` of cavity `i`, of `n` cavities. -/
def slotWordAt (ws : List Word) (n i k : Nat) : Word := planWord ws (8 + 2 * n + 4 * i + k)

/-- The slot part that a slot word holds. -/
def readSlot (w : Word) : SlotCtx := { b := bitsAt w 0 20, n := bitsAt w 20 9 }

/-- A slot field names an installed slot or none (R107). -/
def slotFieldOk (p : CavityPlan) (code : Nat) : Bool :=
  match slotOfCode code with
  | none => false
  | some none => true
  | some (some k) => p.has k

/-- A state in which a bound slot and a confirm count may stand (R107). -/
def CavState.suspected : CavState → Bool
  | .suspect => true
  | .cracked => true
  | .learning => false
  | .sound => false
  | .watch => false
  | .excluded => false

/-- A state in which the score is 0 (R107). -/
def CavState.unscored : CavState → Bool
  | .learning => true
  | .excluded => true
  | .sound => false
  | .watch => false
  | .suspect => false
  | .cracked => false

/-- The cavity fields of cavity `i` pass the field check (R107). -/
def cavityFieldsOk (p : CavityPlan) (w1 w2 : Word) : Bool :=
  match CavState.ofCode (bitsAt w1 0 3) with
  | none => false
  | some st =>
    slotFieldOk p (bitsAt w1 8 3)
      && (bitsAt w1 8 3 = 7 || st.suspected)
      && slotFieldOk p (bitsAt w1 12 3)
      && (bitsAt w2 0 16 = 0 || !st.unscored)
      && (bitsAt w1 4 3 = 0 || st.suspected)
      && (!bitAt w1 3 || st != .excluded)
      && bitsAt w2 16 9 ≤ 256

/-- A slot word passes the field check (R107). -/
def slotFieldsOk (w : Word) : Bool := (readSlot w).b ≤ 524288 && (readSlot w).n ≤ 256

/-- The field check of R107. -/
def imageFieldsOk (q : ProfilePlan) (ws : List Word) : Bool :=
  q.cavities.zipIdx.all (fun x => cavityFieldsOk x.1 (planWord ws (8 + 2 * x.2)) (planWord ws (9 + 2 * x.2)))
    && (List.range (4 * q.cavities.length)).all (fun j => slotFieldsOk (planWord ws (8 + 2 * q.cavities.length + j)))

/-- The cavity part that an image holds for cavity `i` of `n`. -/
def readCavityCtx (ws : List Word) (n i : Nat) : CavityCtx :=
  let w1 := planWord ws (8 + 2 * i)
  let w2 := planWord ws (9 + 2 * i)
  { state := (CavState.ofCode (bitsAt w1 0 3)).getD .learning
    blind := bitAt w1 3
    score := bitsAt w2 0 16
    confirm := bitsAt w1 4 3
    learned := bitsAt w2 16 9
    bound := (slotOfCode (bitsAt w1 8 3)).getD none
    reported := (slotOfCode (bitsAt w1 12 3)).getD none
    enables := BitVec.ofNat 4 (bitsAt w1 16 4)
    slots := (List.range 4).map fun k => readSlot (slotWordAt ws n i k) }

/-- The context that an image holds for a profile (R109). -/
def readContext (q : ProfilePlan) (ws : List Word) : Context :=
  let n := q.cavities.length
  { cavities := (List.range n).map (readCavityCtx ws n)
    channels := q.chans.zipIdx.map fun x =>
      { number := x.1
        offset := signed16 (bitsAt (planWord ws (8 + 6 * n + x.2)) 0 16)
        responsive := bitAt (planWord ws (8 + 6 * n + x.2)) 16 } }

/-! ## The owner's work on contexts -/

/-- Argument `i` of the request in flight. -/
def State.arg (s : State) (i : Nat) : Nat :=
  match s.mail.work with
  | some w => w.args.getD i 0
  | none => 0

/-- The held plan's profile that the request in flight names. -/
def State.argProfile (s : State) : Option (Plan × ProfilePlan) :=
  match s.loader.plan with
  | some pl => (pl.profiles[s.arg 0]?).map fun q => (pl, q)
  | none => none

/-- Cavity `c` of context `p`. -/
def State.cavity (s : State) (p c : Nat) : Option CavityCtx :=
  match s.table.contexts[p]? with
  | some x => x.cavities[c]?
  | none => none

/-- Cavity `c` of context `p` becomes `v`. -/
def setCavity (p c : Nat) (v : CavityCtx) (s : State) : State :=
  match s.table.contexts[p]? with
  | some x => s.setTable { s.table with contexts := s.table.contexts.set p { x with cavities := x.cavities.set c v } }
  | none => s

/-- A cavity request changes its cavity by `f` and completes (R93): a changed state raises one CAVITY STATE notice,
which is placed before the status. -/
def changeCavity (f : CavityCtx → CavityCtx) (s : State) : State :=
  match s.cavity (s.arg 0) (s.arg 1) with
  | none => complete .argumentRange s
  | some c =>
    let s' := setCavity (s.arg 0) (s.arg 1) (f c) s
    if (f c).state = c.state then complete .ok s'
    else complete .ok (raiseNotice (some .mailbox)
      { s'.notice .cavityState (s.arg 1) (stateDetail c.state (f c).state) with profile := some (s.arg 0) } s')

/-- RELEASE CAVITY in mode 0, relearn, or mode 1, keep baseline (R94). -/
def releaseCavity (mode : Nat) (c : CavityCtx) : CavityCtx :=
  if mode = 0 then
    { c with state := .learning, score := 0, confirm := 0, learned := 0, bound := none
             slots := c.slots.map fun _ => { b := 0, n := 0 } }
  else { c with state := .sound, score := 0, confirm := 0, bound := none }

/-- EXCLUDE CAVITY (R95). -/
def excludeCavity (c : CavityCtx) : CavityCtx :=
  { c with state := .excluded, score := 0, confirm := 0, bound := none, blind := false }

/-- INCLUDE CAVITY (R96); the bound slot stays none and the blind flag clear, as they are in EXCLUDED (R88). -/
def includeCavity (c : CavityCtx) : CavityCtx :=
  { c with state := .learning, learned := 0, score := 0, confirm := 0, bound := none, blind := false }

/-- SET PATH ENABLES (R71). -/
def setEnables (mask : Nat) (c : CavityCtx) : CavityCtx := { c with enables := BitVec.ofNat 4 mask }

/-- The snapshot of SAVE CONTEXT is taken (R102) and its words go to the outbound queue (R103). -/
def takeSnapshot (kind : SnapshotKind) (s : State) : State :=
  match s.argProfile, s.table.contexts[s.arg 0]? with
  | some (pl, q), some c =>
    let ws := imageOf s pl q (s.arg 0) kind c
    setPhase .placing (s.setTable { s.table with buf := ws, items := postEntries (s.arg 1) ws })
  | some _, none => complete .argumentRange s
  | none, _ => complete .argumentRange s

/-- RESTORE CONTEXT begins to read its image: one FETCH per word (R105). -/
def beginRestore (s : State) : State :=
  match s.argProfile with
  | some (_, q) =>
    setPhase .reading (s.setTable { s.table with
      buf := []
      items := (List.range q.imageWords).map fun i => .fetch (s.arg 1 + 4 * i) .contextTable })
  | none => complete .argumentRange s

/-- The checked image is committed (R109) and the request completes. -/
def commitImage (s : State) : State :=
  match s.argProfile with
  | some (_, q) =>
    let s' := s.setTable { s.table with contexts := s.table.contexts.set (s.arg 0) (readContext q s.table.buf), buf := [] }
    complete .ok (if s.tracker.active = some (s.arg 0) then publishActivation (s.arg 0) s' else s')
  | none => complete .argumentRange s

/-- Whether a window of profile `p` is open or closing (R15, R108). -/
def windowBusy (s : State) (p : Nat) : Bool :=
  s.tracker.active == some p && (s.tracker.state == .opened || s.tracker.state == .closing)

/-- The image has arrived whole: it is checked, and committed at once or when its window ends (R106 to R108). -/
def checkImage (q : ProfilePlan) (s : State) : State :=
  if !imageHeaderOk q (s.arg 0) s.table.buf then complete .imageMismatch (s.setTable { s.table with buf := [] })
  else if !imageFieldsOk q s.table.buf then complete .badImage (s.setTable { s.table with buf := [] })
  else if windowBusy s (s.arg 0) then setPhase .checked s
  else commitImage s

/-- A fetched image word is written into the buffer at its place (R105). -/
def receiveImageWord (w : Word) (s : State) : State :=
  if workPhaseIs .reading s then
    match s.argProfile with
    | some (_, q) =>
      let s' := s.setTable { s.table with buf := s.table.buf ++ [w] }
      if s'.table.buf.length = q.imageWords then settle (checkImage q s') else s'
    | none => s
  else s

/-- Work that waits for an abandon is released: a snapshot or a commit (R15). What it places, its status among it, is
placed before the step goes on, as far as there is room (R15, R142, entry 29). -/
def releaseAtAbandon (s : State) : State :=
  match s.mail.work with
  | none => s
  | some w =>
    match w.phase, w.fn with
    | .waiting, .saveContext => settle (takeSnapshot .atAbandon s)
    | .checked, _ => settle (commitImage s)
    | _, _ => s

end Sys2Proof.Machine
end

