-- ==== Sys2Proof/Machine/Tracking.lean ====
section
/-! DEFINITION. The cycle tracker (chapter 1) with the mark queue advance it causes (R117, R118): state words,
activation, windows opening, closing and abandoned, and the settlement of step 6. -/

namespace Sys2Proof.Machine

/-! ## The mark queue (R117, R118) -/

/-- A mark with target `t` is reached by a DEMOULD entry for cycle `c` (R117). -/
def markReached (c t : Nat) : Bool := subMod c t 65536 < 32768

/-- The MARK pulse fires, or a running one restarts, with the width of the held plan (R118). -/
def firePulse (pl : Plan) (s : State) : State :=
  s.setOut { s.out with pulse := some { count := 0, width := (pl.pulseW + 1) * 2 ^ pl.pulseP } }

/-- The DEMOULD-entry event for cycle `c` advances the mark queue (R117). -/
def advanceMarks (pl : Plan) (c : Nat) (s : State) : State :=
  let rest := s.out.marks.dropWhile (markReached c)
  if rest.length < s.out.marks.length then firePulse pl (s.setOut { s.out with marks := rest }) else s

/-! ## Windows -/

/-- A window opens (R7, R36, R38, R30, R33): `cycle` is the cycle number of the word that opened it, `late` is set
for a deferred open. -/
def openWindow (pl : Plan) (cycle : Nat) (late : Bool) (s : State) : State :=
  let ctx := (s.tracker.active.bind fun p => s.table.contexts[p]?).getD { cavities := [], channels := [] }
  ((s.setTracker { s.tracker with
      state := .opened, openCycle := cycle, lateStart := late, lastAbandoned := none, deferredOpen := false,
      limitTimer := some 0 }).setAsm (openAssemblers pl.windows.length s.asm)).setEval
    { s.eval with accums := openAccums ctx }

/-- The open window closes normally (R8): close processing begins; `deferred` sets the deferred-open flag. -/
def closeWindow (deferred : Bool) (s : State) : State :=
  ((s.setTracker { s.tracker with
      state := .closing, limitTimer := none, deferredOpen := s.tracker.deferredOpen || deferred }).setAsm
    (stopSilence s.asm)).setClosing { stage := .pending, items := [] }

/-- The open window is abandoned (R11), and work that waits for it is released (R15). The accumulators are held cleared
(entry 16). DESIGN CHOICE (entry 28): the subject of WINDOW ABANDONED, for which the manual gives no value, is 0. -/
def abandonWindow (r : AbandonReason) (s : State) : State :=
  let s1 := s.setTracker { s.tracker with
    state := .armed, limitTimer := none, lastAbandoned := some s.tracker.openCycle, deferredOpen := false }
  let s2 := raiseNotice none (s1.notice .windowAbandoned 0 r.code) s1
  let s3 := dropBusy s2
  releaseAtAbandon ((s3.setEval { s3.eval with accums := List.replicate 64 (Accum.cleared 0) }).setAsm (stopSilence s3.asm))

/-! ## Mould id and activation -/

/-- The held result set is discarded (R51). -/
def dropHeld (s : State) : State := s.setEval { s.eval with held := none }

/-- Profile `p` is activated (R4). -/
def activate (pl : Plan) (p : Nat) (s : State) : State :=
  let s1 := dropHeld (s.setTracker { s.tracker with active := some p, unknownNote := none, state := .armed })
  let id := ((pl.profiles[p]?).map fun q => q.mouldId).getD 0
  publishActivation p (raiseNotice none (s1.notice .activeProfile id 0) s1)

/-- The tracker enters NO MOULD with unknown-id note `note` (R5). -/
def enterNoMould (note : Option Nat) (s : State) : State :=
  dropHeld (s.setTracker { s.tracker with active := none, state := .noMould, unknownNote := note })

/-- A mould id is applied (R4, R5). -/
def applyMould (pl : Plan) (id : Nat) (s : State) : State :=
  if id = 0 then publishZeros (enterNoMould none s)
  else
    match pl.profileOf id with
    | some p => activate pl p s
    | none =>
      let s1 := enterNoMould (some id) s
      publishZeros (if s.tracker.unknownNote = some id then s1
        else raiseNotice none (s1.notice .mouldUnknown id 0) s1)

/-- The mould id of the active profile, none when there is no active profile (R3). -/
def activeMould (pl : Plan) (s : State) : Option Nat :=
  s.tracker.active.bind fun p => (pl.profiles[p]?).map fun q => q.mouldId

/-- The mould id part of an accepted word's handling (R3): work that the abandon releases is done, and its status placed,
before the mould id is applied (R15). -/
def mouldPart (pl : Plan) (id : Nat) (s : State) : State :=
  if activeMould pl s = some id then s
  else
    match s.tracker.state with
    | .noMould => applyMould pl id s
    | .armed => applyMould pl id s
    | .opened => applyMould pl id (abandonWindow .mouldChange s)
    | .closing => s

/-! ## The phase part -/

/-- The phase part in ARMED (R6, R9). -/
def armedPhase (pl : Plan) (w : StateWord) (s : State) : State :=
  match w.phase with
  | .vibrate => if s.tracker.lastAbandoned = some w.cycle then s else openWindow pl w.cycle false s
  | .idle => s
  | .fill => s
  | .demould => s
  | .stopped => s

/-- The phase part in OPEN (R8). -/
def openPhase (w : StateWord) (s : State) : State :=
  match w.phase with
  | .vibrate => if w.cycle = s.tracker.openCycle then s else closeWindow true s
  | .idle => closeWindow false s
  | .fill => closeWindow false s
  | .demould => closeWindow false s
  | .stopped => abandonWindow .pressStopped s

/-- The phase part in CLOSING (R9). -/
def closingPhase (w : StateWord) (s : State) : State :=
  match w.phase with
  | .vibrate => s.setTracker { s.tracker with deferredOpen := true }
  | .idle => s
  | .fill => s
  | .demould => s
  | .stopped => s

/-- The phase part of an accepted word's handling (R5, R6, R8, R9). -/
def phasePart (pl : Plan) (w : StateWord) (s : State) : State :=
  match s.tracker.state with
  | .noMould => s
  | .armed => armedPhase pl w s
  | .opened => openPhase w s
  | .closing => closingPhase w s

/-- The handling of the word `w` itself abandons a window when it meets OPEN: by a differing mould id or by STOPPED
(R6, R9). -/
def abandonsWindow (pl : Plan) (w : StateWord) (s : State) : Bool :=
  s.isOpen && (activeMould pl s != some w.mould || w.phase == .stopped)

/-- A word with a phase other than VIBRATE clears the last abandoned cycle once it has been handled, unless its own
handling abandoned a window (R9). -/
def clearAbandoned (w : StateWord) (abandoned : Bool) (s : State) : State :=
  if w.phase ≠ .vibrate ∧ abandoned = false then s.setTracker { s.tracker with lastAbandoned := none } else s

/-- The DEMOULD-entry test (R12): the previous accepted phase was not DEMOULD. -/
def demouldEntry (w : StateWord) (prev : Option StateWord) : Bool :=
  w.phase == .demould && !(prev.any fun v => v.phase == .demould)

/-- An accepted word is handled (1.3): the DEMOULD-entry test, the mould id, the phase. -/
def handleWord (pl : Plan) (w : StateWord) (s : State) : State :=
  let s1 := s.setTracker { s.tracker with last := some w }
  let s2 := if demouldEntry w s.tracker.last then advanceMarks pl w.cycle s1 else s1
  clearAbandoned w (abandonsWindow pl w s) (phasePart pl w (mouldPart pl w.mould s2))

/-- The fields of a state word that is accepted: a valid phase and a check field of 0 (R1, 11.3). -/
def readStateWord (d : Word) : Option StateWord :=
  match Phase.ofCode (bitsAt d 20 4) with
  | some ph => if bitsAt d 24 8 = 0 then some { phase := ph, mould := bitsAt d 16 4, cycle := bitsAt d 0 16 } else none
  | none => none

/-- The tracker examines a write of the state word (R1). -/
def examineStateWord (pl : Plan) (d : WriteWord) (s : State) : State :=
  match readStateWord d.data with
  | some w => if d.lanes = 15 then settle (handleWord pl w s) else s
  | none => s

/-! ## Step 6 (R14) -/

/-- The mould id of the last accepted word is settled. -/
def settleMould (pl : Plan) (s : State) : State :=
  match s.tracker.last with
  | none => s
  | some w => if activeMould pl s = some w.mould then s else applyMould pl w.mould s

/-- The deferred open takes place when the flag is set, the tracker is ARMED and the last accepted phase is VIBRATE;
otherwise the flag is cleared. -/
def settleOpen (pl : Plan) (s : State) : State :=
  match s.tracker.deferredOpen, s.tracker.state, s.tracker.last with
  | true, .armed, some w =>
    if w.phase = .vibrate then openWindow pl w.cycle true s
    else s.setTracker { s.tracker with deferredOpen := false }
  | _, _, _ => s.setTracker { s.tracker with deferredOpen := false }

/-- Step 6 of close processing (R14). -/
def stepSix (pl : Plan) (s : State) : State :=
  settleOpen pl (settleMould pl
    ((s.setTracker { s.tracker with state := .armed }).setClosing { stage := .idle, items := [] }))

end Sys2Proof.Machine
end

