-- ==== Sys2Proof/Machine/Loading.lean ====
section
/-! DEFINITION. Plan loads (chapter 10): how a load begins, takes its words, fails or is accepted, and RELOAD PLAN. -/

namespace Sys2Proof.Machine

/-- FETCH entries of the `n` plan words from word `first` on (R146). -/
def planFetches (s : State) (first n : Nat) : List Entry :=
  (List.range n).map fun i => .fetch (s.base + Config.planOffset + 4 * (first + i)) .planLoader

/-- A queued FETCH of a discarded load is performed, and its word dropped (R151). -/
def Entry.drop : Entry → Entry
  | .post a w o => .post a w o
  | .fetch a .planLoader => .fetch a .dropped
  | .fetch a .contextTable => .fetch a .contextTable
  | .fetch a .dropped => .fetch a .dropped

/-- The capture side as a load begins (R34, R54): every assembler takes the values of R20, the frame being worked on
and the held set are dropped, the accumulator sets are cleared. -/
def dropCapture (s : State) : State :=
  (s.setAsm (List.replicate 4 .start)).setEval { Evaluator.start s.eval.frames with dump := s.eval.dump }

/-- The loader begins a load from the header (R145, R146, R151): no plan, no context, and the FETCHes of a load in
flight dropped. -/
def startLoader (s : State) : State :=
  ((s.setLoader { s.loader with
      run := .loading, plan := none, retry := none, phase := .header, buf := [], items := planFetches s 0 4 }).setPath
    { s.path with queue := s.path.queue.map Entry.drop }).setTable { s.table with contexts := [] }

/-- A load begins (R145, R150, R151): the run state becomes LOADING, the tracker takes the values of R2 and the
published bank becomes zeros; the latch, the STOP level, the marks, the pulse, the counters and the overlay are held. -/
def beginLoad (s : State) : State :=
  publishZeros (dropCapture
    ((startLoader s).setTracker .start |>.setClosing { stage := .idle, items := [] }))

/-- A load fails (R147): NO PLAN with the fault reason, the retry timer at 0, and a RELOAD PLAN that began the load
completes with PLAN REJECTED (R151). -/
def failLoad (f : PlanFault) (s : State) : State :=
  let s1 := s.setLoader { s.loader with run := .noPlan, fault := f, retry := some 0, phase := .idle, buf := [], items := [] }
  if workPhaseIs .loading s1 then complete .planRejected s1 else s1

/-- SET OVERLAY (R133). -/
def doOverlay (s : State) : State := complete .ok (s.setPath { s.path with overlay := s.arg 0 == 1 })

/-- A SET OVERLAY that has been taken and not begun is carried out: it executes at once (R133), before an acceptance
returns the mailbox to IDLE (entry 21). -/
def carryOverlay (s : State) : State :=
  match s.mail.work with
  | some w => if w.fn = .setOverlay ∧ w.phase = .handed then doOverlay s else s
  | none => s

/-- The mailbox holds a RELOAD PLAN TAKEN (R143, R149). -/
def Mailbox.holdsReload (m : Mailbox) : Bool := m.state == .taken && m.work.any fun w => w.fn == .reloadPlan

/-- A status of mailbox `m` still to be placed, as it stands when the mailbox gives its request up. -/
def MailItem.freeze (m : Mailbox) : MailItem → MailItem
  | .taken w => .taken w
  | .finished w n r => .finished w n r
  | .done r f => .finished (doneWord m r f) m.serial r

/-- The mailbox at an acceptance (R143, R149): IDLE, with a collection in progress dropped and the serial kept, unless it
holds a RELOAD PLAN TAKEN. A status that waits for room is still posted (R142, entry 21). -/
def Mailbox.afterLoad (m : Mailbox) : Mailbox :=
  if m.holdsReload then m
  else { m with state := .idle, args := [], work := none, items := m.items.map (MailItem.freeze m) }

/-- Start values of the report writer at an acceptance (R120): banks and counters zero, the new ring in use, and the
three head POSTs to be placed, for which RUNNING does not wait (entry 25). -/
def acceptReport (pl : Plan) (base : Nat) (r : Report) : Report :=
  { r with
    published := zeroBank, building := zeroBank, producer := 0, consumer := 0, overflow := 0, seq := 0
    ring := some { base := pl.ringBase, size := pl.ringSize, kindMask := pl.kindMask }
    items := r.items ++
      [.post (base + Config.producerOffset) 0 (some .mailbox), .post (base + Config.overflowOffset) 0 (some .mailbox),
       .post (base + Config.consumerOffset) 0 (some .mailbox)] }

/-- The start values of R149, steps 1 to 7, the head POSTs, and RUNNING. -/
def acceptValues (pl : Plan) (s : State) : State :=
  let s0 := carryOverlay s
  let s1 := s0.setLoader { s0.loader with
    run := .running, plan := some pl, fault := .none, retry := none, phase := .idle, buf := [], items := [] }
  let s2 := (s1.setTable { s1.table with contexts := pl.profiles.map freshContext }).setTracker .start
  let s3 := (s2.setAsm (List.replicate 4 .start)).setEval { Evaluator.start s2.eval.frames with dump := s2.eval.dump }
  let s4 := s3.setOut { s3.out with stopLatch := false, stopHigh := some pl.stopHigh, marks := [] }
  (s4.setReport (acceptReport pl s4.base s4.report)).setMail s4.mail.afterLoad

/-- A plan is accepted (R149): start values, the PLAN LOADED notice, and the completion of a RELOAD PLAN. -/
def acceptPlan (pl : Plan) (clamped : Nat) (s : State) : State :=
  let s1 := acceptValues pl s
  let s2 := raiseNotice none { kind := .planLoaded, profile := none, subject := pl.serial, cycle := 0, detail := clamped } s1
  if workPhaseIs .loading s2 then complete .ok s2 else s2

/-- The last plan word has arrived: the plan is judged (R146, R147, R148). -/
def finishLoad (len : Nat) (s : State) : State :=
  match judgePlan s.loader.buf len s.base with
  | .ok (pl, n) => acceptPlan pl n s
  | .error f => failLoad f s

/-- The four header words have arrived (R146). -/
def finishHeader (s : State) : State :=
  match headerFault s.loader.buf with
  | .none =>
    let len := bitsAt (planWord s.loader.buf 2) 0 16
    if len = 4 then finishLoad len s
    else s.setLoader { s.loader with phase := .body len, items := s.loader.items ++ planFetches s 4 (len - 4) }
  | f => failLoad f s

/-- A fetched plan word is delivered to the loader (R146). -/
def receivePlanWord (w : Word) (s : State) : State :=
  let s1 := s.setLoader { s.loader with buf := s.loader.buf ++ [w] }
  match s.loader.phase with
  | .idle => s
  | .header => if s1.loader.buf.length = 4 then settle (finishHeader s1) else s1
  | .body len => if s1.loader.buf.length = len then settle (finishLoad len s1) else s1

/-- RELOAD PLAN's load begins (R151): the request stays TAKEN until the load ends. -/
def startReload (s : State) : State := beginLoad (setPhase .loading s)

/-- RELOAD PLAN by run state and tracker state (R151). -/
def reloadPlan (s : State) : State :=
  match s.loader.run, s.tracker.state with
  | .running, .opened => startReload (abandonWindow .planReload s)
  | .running, .closing => setPhase .waiting s
  | .running, .noMould => startReload s
  | .running, .armed => startReload s
  | .noPlan, _ => startReload s
  | .loading, _ => startReload s

end Sys2Proof.Machine
end

