-- ==== Sys2Proof/Machine/Requests.lean ====
section
/-! DEFINITION. The request mailbox (chapter 9): collecting request words, taking and checking a request, and the work
of its owner. -/

namespace Sys2Proof.Machine

/-! ## Checks (R141) -/

/-- A profile argument names a profile the plan defines. -/
def profileArg (pl : Plan) (p : Nat) : Option ProfilePlan := if p ≤ 3 then pl.profiles[p]? else none

/-- Profile and cavity arguments lie in their ranges (R70, R93). -/
def cavityArgOk (pl : Plan) (p c : Nat) : Bool :=
  match profileArg pl p with
  | some q => c < q.cavities.length
  | none => false

/-- An area of `n` bytes at `a` that a dump or an image may use: word aligned, below 1000000h, and apart from the
anchor region and every capture ring (R52, R101). -/
def postAreaOk (pl : Plan) (base a n : Nat) : Bool :=
  areaOk a n && !overlaps a n base Config.anchorBytes && !pl.rings.any fun r => overlaps a n r.1 r.2

/-- The image area of profile `p` at address `a` is acceptable (R101, R104). -/
def imageArgOk (pl : Plan) (base p a : Nat) : Bool :=
  match profileArg pl p with
  | some q => postAreaOk pl base a (4 * q.imageWords)
  | none => false

/-- Check 4: every argument lies in its range (R52, R70, R93, R101, R104, R133). Outside RUNNING only SET OVERLAY and
RELOAD PLAN come this far. -/
def rangesOk (s : State) (f : Fn) (args : List Nat) : Bool :=
  let x := args.getD 0 0
  let y := args.getD 1 0
  let z := args.getD 2 0
  match f, s.runningPlan with
  | .reloadPlan, _ => true
  | .acknowledgeStop, _ => true
  | .setOverlay, _ => x ≤ 1
  | .releaseCavity, some pl => cavityArgOk pl x y && z ≤ 1
  | .excludeCavity, some pl => cavityArgOk pl x y
  | .includeCavity, some pl => cavityArgOk pl x y
  | .setPathEnables, some pl => cavityArgOk pl x y && z ≤ 15
  | .saveContext, some pl => imageArgOk pl s.base x y
  | .restoreContext, some pl => imageArgOk pl s.base x y
  | .dumpChannels, some pl => postAreaOk pl s.base x 1024
  | _, none => false

/-- The state of the cavity that a request names is EXCLUDED. -/
def cavityExcluded (s : State) (args : List Nat) : Bool :=
  (s.cavity (args.getD 0 0) (args.getD 1 0)).any fun c => c.state == .excluded

/-- Check 5: the state that the owning chapter requires (R52, R94, R96). -/
def stateOk (s : State) (f : Fn) (args : List Nat) : Bool :=
  match f with
  | .releaseCavity => !cavityExcluded s args
  | .includeCavity => cavityExcluded s args
  | .dumpChannels => s.eval.held.isSome
  | .excludeCavity => true
  | .setPathEnables => true
  | .acknowledgeStop => true
  | .saveContext => true
  | .restoreContext => true
  | .reloadPlan => true
  | .setOverlay => true

/-- The functions that execute without a plan (check 3). -/
def Fn.planless : Fn → Bool
  | .reloadPlan => true
  | .setOverlay => true
  | .releaseCavity => false
  | .excludeCavity => false
  | .includeCavity => false
  | .setPathEnables => false
  | .acknowledgeStop => false
  | .saveContext => false
  | .restoreContext => false
  | .dumpChannels => false

/-- The five checks in order; the first that fails gives the result (R141). -/
def checkRequest (s : State) (fn : Word) (args : List Nat) : Except Result Fn :=
  match Fn.ofCode fn.toNat with
  | none => .error .unknownFunction
  | some f =>
    if args.length ≠ f.arity then .error .argumentCount
    else if s.loader.run ≠ .running && !f.planless then .error .noPlan
    else if !rangesOk s f args then .error .argumentRange
    else if !stateOk s f args then .error .wrongState
    else .ok f

/-- Whether the work of a request waits, decided when it is taken (R15). -/
def waitsForWindow (s : State) (f : Fn) (args : List Nat) : Bool :=
  let onActive := s.tracker.active == some (args.getD 0 0)
  let closing := s.tracker.state == .closing
  match f with
  | .releaseCavity => onActive && closing
  | .excludeCavity => onActive && closing
  | .includeCavity => onActive && closing
  | .setPathEnables => onActive && closing
  | .saveContext => windowBusy s (args.getD 0 0)
  | .reloadPlan => closing && s.loader.run == .running
  | .acknowledgeStop => false
  | .restoreContext => false
  | .setOverlay => false
  | .dumpChannels => false

/-! ## Collection (R140) -/

/-- The serial after the next request. -/
def nextSerial (s : State) : Nat := (s.mail.serial + 1) % 256

/-- The request is taken (R141): serial, TAKEN status, checks; one that passes is handed to its owner, or waits. -/
def takeRequest (s : State) : State :=
  let n := nextSerial s
  let args := s.mail.args.map BitVec.toNat
  let m := { s.mail with
    state := .taken, serial := n, disturbed := false, work := none
    items := s.mail.items ++ [.taken (statusWord 1 false n s.mail.fn 0 0)] }
  match checkRequest s s.mail.fn args with
  | .error r => complete r (s.setMail m)
  | .ok f =>
    s.setMail { m with work := some { fn := f, args := args, phase := if waitsForWindow s f args then .waiting else .handed } }

/-- A malformed request (R140): the serial increases, the mailbox enters IDLE, and a DONE status with MALFORMED goes
out, followed by its REQUEST DONE notice. -/
def malformRequest (s : State) : State :=
  let n := nextSerial s
  s.setMail { s.mail with
    state := .idle, serial := n, args := [], disturbed := false
    items := s.mail.items ++ [.finished (statusWord 2 false n s.mail.fn Result.malformed.code 0) n .malformed] }

/-- A collection starts, or starts again, with function code `d` (R140). -/
def startCollection (d : Word) (s : State) : State :=
  s.setMail { s.mail with state := .collecting, fn := d, args := [], expected := 2, disturbed := false }

/-- A full-lane write at the expected index (R140). -/
def collectWord (d : Word) (s : State) : State :=
  if d = Config.terminator then settle (takeRequest s)
  else if s.mail.expected = 15 then settle (malformRequest s)
  else s.setMail { s.mail with args := s.mail.args ++ [d], expected := s.mail.expected + 1 }

/-- The mailbox examines a write of word `i`, 1..15 (R140). -/
def examineMailWord (i : Nat) (d : WriteWord) (s : State) : State :=
  match s.mail.state with
  | .idle => if d.lanes = 15 ∧ i = 1 then startCollection d.data s else s
  | .collecting =>
    if d.lanes ≠ 15 then settle (malformRequest s)
    else if i = 1 then startCollection d.data s
    else if i = s.mail.expected then collectWord d.data s
    else settle (malformRequest s)
  | .taken => s.setMail { s.mail with disturbed := true }

/-! ## The owner's work -/

/-- RELEASE CAVITY (R94). -/
def doRelease (s : State) : State := changeCavity (releaseCavity (s.arg 2)) s

/-- EXCLUDE CAVITY (R95). -/
def doExclude (s : State) : State := changeCavity excludeCavity s

/-- INCLUDE CAVITY (R96). -/
def doInclude (s : State) : State := changeCavity includeCavity s

/-- SET PATH ENABLES (R71). -/
def doSetEnables (s : State) : State := changeCavity (setEnables (s.arg 2)) s

/-- ACKNOWLEDGE STOP (R113). -/
def doAcknowledge (s : State) : State := complete .ok (s.setOut { s.out with stopLatch := false })

/-- DUMP CHANNELS (R52, R53): the held set as it stands when the request executes. -/
def doDump (s : State) : State :=
  match s.eval.held, s.loader.plan with
  | some h, some pl => setPhase .placing (s.setEval { s.eval with dump := dumpEntries pl h (s.arg 0) })
  | some _, none => complete .wrongState s
  | none, _ => complete .wrongState s

/-- The owner of function `f` carries its work out, with `kind` for a snapshot. -/
def doWork (kind : SnapshotKind) (f : Fn) (s : State) : State :=
  match f with
  | .releaseCavity => doRelease s
  | .excludeCavity => doExclude s
  | .includeCavity => doInclude s
  | .setPathEnables => doSetEnables s
  | .acknowledgeStop => doAcknowledge s
  | .saveContext => takeSnapshot kind s
  | .restoreContext => beginRestore s
  | .reloadPlan => reloadPlan s
  | .setOverlay => doOverlay s
  | .dumpChannels => doDump s

/-- The request in flight has been handed to its owner and not begun. -/
def handedFn (s : State) : Option Fn :=
  match s.mail.work with
  | some w => if w.phase = .handed then some w.fn else none
  | none => none

/-- A handed request is carried out at once, whatever its function, and what it places is placed as far as there is room
(R142). -/
def carryOut (s : State) : State :=
  match handedFn s with
  | some f => settle (doWork .atOnce f s)
  | none => s

/-- Whether work waits for this publish (R15). -/
def workWaits (s : State) : Bool := workPhaseIs .waiting s || workPhaseIs .checked s

/-- Work that waited for publish is carried out (R15): a RELOAD PLAN begins its load, a checked image is committed. What other
work places, its status among it, is placed before step 6, as far as there is room (R15, R142, entry 29). -/
def releaseAtPublish (s : State) : State :=
  match s.mail.work with
  | none => s
  | some w =>
    match w.phase, w.fn with
    | .waiting, .reloadPlan => startReload s
    | .waiting, f => settle (doWork .atPublish f s)
    | .checked, _ => settle (commitImage s)
    | _, _ => s

end Sys2Proof.Machine
end

