-- ==== Sys2Proof/Machine/CloseCommands.lean ====
section
/-! DEFINITION. Close processing (R13): steps 1 to 4 at CHANNEL_CLOSE, publish and step 6, and the release of waiting
work between them (R15). -/

namespace Sys2Proof.Machine

/-- What a close needs: the held plan, the active profile with its number, and its context. -/
structure CloseInput where
  plan : Plan
  number : Nat
  profile : ProfilePlan
  context : Context
  deriving DecidableEq, Repr

/-- The held plan, the active profile and its context, while RUNNING. -/
def closeInput (s : State) : Option CloseInput :=
  match s.runningPlan, s.tracker.active with
  | some pl, some p =>
    match pl.profiles[p]?, s.table.contexts[p]? with
    | some q, some c => some { plan := pl, number := p, profile := q, context := c }
    | some _, none => none
    | none, _ => none
  | some _, none => none
  | none, _ => none

/-- Step 1 on the context: offsets and responsive flags (R48, R49). -/
def stepOneContext (rs : List ChanResult) (c : Context) : Context :=
  { c with channels := c.channels.map (closeChannelCtx rs) }

/-- Step 1: the results become the held set, the accumulators keep their final values (R36, R44, R51). -/
def stepOne (x : CloseInput) (rs : List ChanResult) (s : State) : State :=
  (s.setEval { s.eval with accums := finalAccums rs s.eval.accums, held := some (heldSet rs) }).setTable
    { s.table with contexts := s.table.contexts.set x.number (stepOneContext rs x.context) }

/-- The context after step 2 (R57). -/
def stepTwoContext (rs : List ChanResult) (x : CloseInput) (outs : List CavOut) : Context :=
  { stepOneContext rs x.context with cavities := outs.map fun o => o.after }

/-- Step 2: the cavities of the active context take their values after pass 3. -/
def stepTwo (x : CloseInput) (rs : List ChanResult) (outs : List CavOut) (s : State) : State :=
  s.setTable { s.table with contexts := s.table.contexts.set x.number (stepTwoContext rs x outs) }

/-- The medians of the close, group by group (R66); every group at or above the group count has no member (R67). -/
def closeMedian (x : CloseInput) (rs : List ChanResult) : Nat → Nat :=
  groupMedian rs (x.profile.cavities.zip x.context.cavities)

/-- Step 3: the building bank (R122). -/
def stepThree (x : CloseInput) (rs : List ChanResult) (outs : List CavOut) (s : State) : State :=
  s.setReport { s.report with
    building := closeBank s x.number (stepTwoContext rs x outs) outs (closeMedian x rs) (someLong rs x.profile) }

/-- The mark push of step 4, if some cavity marks (R116). -/
def markItems (x : CloseInput) (outs : List CavOut) (s : State) : List StepItem :=
  let n := outs.countP (marks x.profile)
  if n = 0 then [] else [.markPush n ((s.tracker.openCycle + x.profile.delay) % 65536)]

/-- What step 4 places, in the order of R126: records, channel notices, cavity notices, the mark push; computed here and
held until it is placed (entry 26). -/
def stepFourItems (x : CloseInput) (rs : List ChanResult) (outs : List CavOut) (s : State) : List StepItem :=
  recordItems s x.number x.profile rs outs
    ++ (x.context.channels.filterMap (channelNotice s rs)).map .notice
    ++ (outs.flatMap (CavOut.notices s)).map .notice
    ++ markItems x outs s

/-- Step 4: the stop latch (R112), and the entries that are to be placed (R126). -/
def stepFour (x : CloseInput) (rs : List ChanResult) (outs : List CavOut) (s : State) : State :=
  let latch := x.profile.stopAction && outs.any CavOut.enteredCracked
  (s.setOut { s.out with stopLatch := s.out.stopLatch || latch }).setClosing
    { stage := .placing, items := stepFourItems x rs outs s }

/-- Steps 1 to 4 of close processing (R13). -/
def closeSteps (x : CloseInput) (s : State) : State :=
  let rs := closeChannels s x.plan
  let outs := closeCavities rs x.profile x.context
  stepFour x rs outs (stepThree x rs outs (stepTwo x rs outs (stepOne x rs s)))

/-- Close processing may begin: the tracker is CLOSING, step 1 has not run, and the frame in progress is finished
(R13, R29). -/
def closeDue (s : State) : Bool :=
  s.tracker.state == .closing && s.closing.stage == .pending && s.eval.busy.isNone

/-- CHANNEL_CLOSE (R13, R44): a request that has been handed over and not begun is carried out first (R72, entry 9). -/
def execChannelClose (s : State) : Host.Outcome State Fault Refusal :=
  .next (if s.resetLow then s
    else if closeDue s then
      let s1 := carryOut s
      match closeInput s1 with
      | some x => settle (closeSteps x s1)
      | none => s1
    else s)

/-- Step 4 has placed all its entries (R126). -/
def publishDue (s : State) : Bool :=
  s.tracker.state == .closing && s.closing.stage == .placing && s.closing.items.isEmpty && !gated .closeStep s

/-- Step 5: the banks change places (R124). -/
def swapBanks (s : State) : State :=
  s.setReport { s.report with published := s.report.building, building := s.report.published }

/-- Step 6 if the run state is still RUNNING (R14, R15). -/
def finishClose (s : State) : State :=
  match s.runningPlan with
  | some pl => stepSix pl s
  | none => s

/-- PUBLISH (R124): with work waiting, step 6 follows its release (R15, entry 10). -/
def execPublish (s : State) : Host.Outcome State Fault Refusal :=
  .next (if s.resetLow then s
    else if publishDue s then
      let s1 := swapBanks s
      if workWaits s1 then s1.setClosing { s1.closing with stage := .published } else settle (finishClose s1)
    else s)

/-- The bank has been published and work waits (R15). -/
def releaseDue (s : State) : Bool := s.tracker.state == .closing && s.closing.stage == .published

/-- WAITING_WORK_RELEASED (R15): after step 5 and before step 6. DESIGN CHOICE (entry 29): step 6 does not wait for a
status that finds no room. -/
def execWaitingWorkReleased (s : State) : Host.Outcome State Fault Refusal :=
  .next (if s.resetLow then s else if releaseDue s then settle (finishClose (releaseAtPublish s)) else s)

end Sys2Proof.Machine
end

