-- ==== Sys2Proof/WellFormed.lean ====
section
/-! DEFINITION. Which commands the controller port can carry (9.1): a burst has 1, 2, 4 or 8 words and its
address is aligned to its length. Every other command is well formed by its type. -/

namespace Sys2Proof

/-- A burst has 1, 2, 4 or 8 words (9.1). -/
def burstLength (n : Nat) : Bool := n = 1 || n = 2 || n = 4 || n = 8

/-- The start address is a word address aligned to the burst's length (9.1). -/
def burstAligned (a : Addr) (n : Nat) : Bool := a.toNat % (4 * n) = 0

/-- A write burst that the controller port can carry. -/
def WriteBurst.ok (t : WriteBurst) : Bool := burstLength t.words.length && burstAligned t.addr t.words.length

/-- A read burst that the controller port can carry. -/
def ReadBurst.ok (t : ReadBurst) : Bool := burstLength t.len && burstAligned t.addr t.len

/-- A transaction that the controller port can carry. -/
def Txn.ok : Txn → Bool
  | .write t => t.ok
  | .read t => t.ok

/-- Well-formed commands: their bursts, if any, are transactions of the controller port. -/
def Instr.wellFormed : Instr → Bool
  | .resetAsserted _ => true
  | .resetReleased _ _ => true
  | .controllerWrite t => t.ok
  | .controllerRead t => t.ok
  | .pressStateWord t => t.ok
  | .windowLimitExpiry => true
  | .captureRingWrite t => t.ok
  | .silenceExpiry _ => true
  | .frameTaken => true
  | .channelClose => true
  | .publish => true
  | .waitingWorkReleased => true
  | .markPulseExpiry => true
  | .noticeConsumerWrite t => t.ok
  | .mailboxWordWrite t => t.ok
  | .releaseCavity => true
  | .excludeCavity => true
  | .includeCavity => true
  | .setPathEnables => true
  | .acknowledgeStop => true
  | .saveContext => true
  | .restoreContext => true
  | .reloadPlan => true
  | .setOverlay => true
  | .dumpChannels => true
  | .postPerformed => true
  | .fetchPerformed => true
  | .queueRoomPlacement _ => true
  | .retryTimerExpiry => true
  | .lineTick => true
  | .frameFinished => true

end Sys2Proof
end

