-- ==== Sys2Proof/Machine/Path.lean ====
section
/-! DEFINITION. The memory path (chapter 9): taking, merging, forwarding and snooping controller writes, serving
controller reads, holding transactions, and performing outbound entries. -/

namespace Sys2Proof.Machine

/-! ## Controller writes (R131, R132, R135) -/

/-- The words of a write burst with their byte addresses, ascending (9.1). -/
def placedWords (t : WriteBurst) : List (Nat × WriteWord) :=
  t.words.zipIdx.map fun x => (burstAddr t.addr x.2, x.1)

/-- A controller write word meets a queued entry: a POST to the same word takes its lanes (R135). -/
def mergeEntry (x : Nat × WriteWord) (e : Entry) : Entry :=
  match e with
  | .post a w o => if a = x.1 then .post a (mergeLanes w x.2.data x.2.lanes) (o ||| x.2.lanes) else .post a w o
  | .fetch a d => .fetch a d

/-- A POST whose four lanes have all been overwritten is withdrawn (R135). -/
def Entry.stays (e : Entry) : Bool :=
  match e with
  | .post _ _ o => o != 15
  | .fetch _ _ => true

/-- One write word merged into the outbound queue (R135). -/
def mergeWord (q : List Entry) (x : Nat × WriteWord) : List Entry := (q.map (mergeEntry x)).filter Entry.stays

/-- One write word forwarded to memory (R131). -/
def forwardWord (m : List Host.Cell) (x : Nat × WriteWord) : List Host.Cell := writeLanes m x.1 x.2.data x.2.lanes

/-- The report writer examines a write of the consumer word (R129). -/
def examineConsumer (d : WriteWord) (s : State) : State :=
  match s.runningPlan with
  | none => s
  | some pl =>
    let v := d.data.toNat
    let e := pl.ringSize
    if d.lanes = 15 ∧ v < e ∧ subMod v s.report.consumer e ≤ subMod s.report.producer s.report.consumer e then
      s.setReport { s.report with consumer := v }
    else s

/-- The capture ring that a byte address lies in, with its window (R19). -/
def ringAt (pl : Plan) (a : Nat) : Option (Nat × WindowPlan) :=
  match pl.windows.findIdx? fun w => w.inRing a with
  | some i => (pl.windows[i]?).map fun w => (i, w)
  | none => none

/-- Byte addresses of mailbox words 1 to 15 (R132). -/
def isMailWord (base a : Nat) : Bool := base + 4 ≤ a && a ≤ base + 0x3C

/-- One word of a forwarded write is offered to the block of the region it falls in (R132). -/
def snoopWord (s : State) (x : Nat × WriteWord) : State :=
  if isMailWord s.base x.1 then examineMailWord ((x.1 - s.base) / 4) x.2 s
  else if x.1 = s.base + Config.consumerOffset then examineConsumer x.2 s
  else
    match s.runningPlan with
    | none => s
    | some pl =>
      if x.1 = pl.stateWordAddr then examineStateWord pl x.2 s
      else
        match ringAt pl x.1 with
        | some (i, w) => examineRingWord i w x.1 x.2 s
        | none => s

/-- A forwarded transaction that uses the port adds 1 to the turn count, up to 4 (R138). -/
def countTurn (s : State) : State := s.setPath { s.path with turn := min Config.turnLimit (s.path.turn + 1) }

/-- A taken write is merged into the queued POSTs and forwarded to memory, using the port (R131, R135, R138). -/
def mergeAndForward (t : WriteBurst) (s : State) : State :=
  countTurn ((s.setPath { s.path with queue := (placedWords t).foldl mergeWord s.path.queue }).setMem
    ((placedWords t).foldl forwardWord s.mem))

/-- A controller write is taken (R131): merge, forward, snoop. -/
def takeWrite (t : WriteBurst) (s : State) : State := (placedWords t).foldl snoopWord (mergeAndForward t s)

/-! ## Controller reads (R131, R133, R136) -/

/-- The word of the youngest queued POST to address `a` (R136). -/
def youngestPost (a : Nat) : List Entry → Option Word
  | [] => none
  | .post b w _ :: q => (youngestPost a q).or (if b = a then some w else none)
  | .fetch _ _ :: q => youngestPost a q

/-- Whether the overlay answers the word at `a` (R133). -/
def overlaid (s : State) (a : Nat) : Bool :=
  s.path.overlay && s.base + Config.verdictOffset ≤ a && a < s.base + Config.verdictOffset + 256

/-- The answer to one read word, and whether it comes from memory (R131, R133, R136). -/
def serveWord (s : State) (a : Nat) : Word × Bool :=
  if overlaid s a then (overlayWord s ((a - (s.base + Config.verdictOffset)) / 4), false)
  else
    match youngestPost a s.path.queue with
    | some w => (w, false)
    | none => (readWord s.mem a, true)

/-- Byte addresses of a read burst, ascending (9.1). -/
def readAddrs (t : ReadBurst) : List Nat := (List.range t.len).map (burstAddr t.addr)

/-- Read data is returned at the controller port. -/
def returnData (t : ReadBurst) (data : List Word) (s : State) : State :=
  s.setPath { s.path with reads := s.path.reads ++ [{ addr := t.addr, data := data }] }

/-- A controller read is taken (R131): served word by word, with a turn of the port if a word comes from memory. -/
def takeRead (t : ReadBurst) (s : State) : State :=
  let words := (readAddrs t).map (serveWord s)
  let s' := returnData t (words.map Prod.fst) s
  if words.any Prod.snd then countTurn s' else s'

/-- A controller transaction is taken. -/
def takeTxn (t : Txn) (s : State) : State :=
  match t with
  | .write w => takeWrite w s
  | .read r => takeRead r s

/-! ## The arbiter's hold (R138) and RESET low (R139) -/

/-- The count is 4 and the queue is not empty: a transaction that arrives is held (R138). -/
def holds (s : State) : Bool := Config.turnLimit ≤ s.path.turn && !s.path.queue.isEmpty

/-- Held transactions are taken in the order in which they arrived, until the arbiter holds again (R138, R131, entry 8). -/
def takeHeld : List Txn → State → State
  | [], s => s.setPath { s.path with held := [] }
  | t :: ts, s => if holds s then s.setPath { s.path with held := t :: ts } else takeHeld ts (takeTxn t s)

/-- A transaction forwarded directly to the memory port, as while RESET is low (R139). -/
def forwardDirect (s : State) (t : Txn) : State :=
  match t with
  | .write w => s.setMem ((placedWords w).foldl forwardWord s.mem)
  | .read r => returnData r ((readAddrs r).map (readWord s.mem)) s

/-- A transaction arrives at the controller port: forwarded directly while RESET is low, held, or taken. -/
def arrive (t : Txn) (s : State) : State :=
  if s.resetLow then forwardDirect s t
  else if !s.path.held.isEmpty || holds s then s.setPath { s.path with held := s.path.held ++ [t] }
  else takeTxn t s

/-- A controller transaction as a command: what is no transaction (9.1) is refused (entry 5). -/
def submit (t : Txn) (s : State) : Host.Outcome State Fault Refusal :=
  if t.ok then .next (arrive t s) else .refused .notATransaction

/-! ## Performing outbound entries (R137) -/

/-- The oldest entry has left the queue and the turn count is 0 (R137, R138). -/
def popEntry (q : List Entry) (s : State) : State := s.setPath { s.path with queue := q, turn := 0 }

/-- The word of a FETCH goes to the block that placed it (R137). -/
def deliver (d : Dest) (w : Word) (s : State) : State :=
  match d with
  | .planLoader => receivePlanWord w s
  | .contextTable => receiveImageWord w s
  | .dropped => s

/-- The oldest entry, a POST, is performed; a held transaction is then taken (R137, R138). -/
def performPost (s : State) : State :=
  match s.path.queue with
  | .post a w _ :: q => takeHeld s.path.held ((popEntry q s).setMem (writeWord s.mem a w))
  | .fetch _ _ :: _ => s
  | [] => s

/-- The oldest entry, a FETCH, is performed and delivered; a held transaction is then taken (R137, R138). -/
def performFetch (s : State) : State :=
  match s.path.queue with
  | .fetch a d :: q => takeHeld s.path.held (deliver d (readWord s.mem a) (popEntry q s))
  | .post _ _ _ :: _ => s
  | [] => s

/-- An entry that the port is performing as RESET falls completes its memory access; a FETCH's word is dropped (R139). -/
def finishOnPort (s : State) : State :=
  match s.path.queue with
  | .post a w _ :: _ => s.setMem (writeWord s.mem a w)
  | .fetch _ _ :: _ => s
  | [] => s

/-- RESET is asserted (R139): the entry on the port completes, the held transactions are forwarded, the rest of the
queue is removed, and every block loses its state. -/
def assertReset (performing : Bool) (s : State) : State :=
  let s1 := if performing then finishOnPort s else s
  let s2 := s1.path.held.foldl forwardDirect s1
  State.blank s2.mem s2.path.reads s2.pending

/-- RESET is released (R144, R145): the straps are latched, every block takes its start values, and a load begins. -/
def releaseReset (a1 a0 : Bool) (s : State) : State :=
  settle (beginLoad (((State.blank s.mem s.path.reads s.pending).setResetLow false).setAnchor
    (BitVec.ofBool a1 ++ BitVec.ofBool a0)))

end Sys2Proof.Machine
end

