-- ==== Sys2Proof/Machine/PortCommands.lean ====
section
/-! DEFINITION. The commands of the controller port. The five write rows are one path (R131): the region that a word
falls in decides which block examines it (R132), whatever row the burst stands in (entry 7). -/

namespace Sys2Proof.Machine

/-- CONTROLLER_WRITE (R131). -/
def execControllerWrite (t : WriteBurst) (s : State) : Host.Outcome State Fault Refusal := submit (.write t) s

/-- CONTROLLER_READ (R131, R133, R136). -/
def execControllerRead (t : ReadBurst) (s : State) : Host.Outcome State Fault Refusal := submit (.read t) s

/-- PRESS_STATE_WORD (R1). -/
def execPressStateWord (t : WriteBurst) (s : State) : Host.Outcome State Fault Refusal := submit (.write t) s

/-- CAPTURE_RING_WRITE (R19, R22). -/
def execCaptureRingWrite (t : WriteBurst) (s : State) : Host.Outcome State Fault Refusal := submit (.write t) s

/-- NOTICE_CONSUMER_WRITE (R129). -/
def execNoticeConsumerWrite (t : WriteBurst) (s : State) : Host.Outcome State Fault Refusal := submit (.write t) s

/-- MAILBOX_WORD_WRITE (R140). -/
def execMailboxWordWrite (t : WriteBurst) (s : State) : Host.Outcome State Fault Refusal := submit (.write t) s

end Sys2Proof.Machine
end

