-- ==== Sys2Proof/Machine/QueueCommands.lean ====
section
/-! DEFINITION. The commands of the outbound queue (R134, R137, R138). While RESET is low nothing is performed or
placed (R139). -/

namespace Sys2Proof.Machine

/-- POST_PERFORMED (R137): no effect when the oldest entry is no POST (entry 4). -/
def execPostPerformed (s : State) : Host.Outcome State Fault Refusal :=
  .next (if s.resetLow then s else performPost s)

/-- FETCH_PERFORMED (R137): no effect when the oldest entry is no FETCH (entry 4). -/
def execFetchPerformed (s : State) : Host.Outcome State Fault Refusal :=
  .next (if s.resetLow then s else performFetch s)

/-- QUEUE_ROOM_PLACEMENT (R134): the waiting producer `p` places its next entry; no effect when it has none to place or
the queue is full (entry 4). -/
def execQueueRoomPlacement (p : Producer) (s : State) : Host.Outcome State Fault Refusal :=
  .next (if s.resetLow then s else if canPlace s p then placeNext p s else s)

end Sys2Proof.Machine
end

