-- ==== Sys2Proof/Machine/RequestCommands.lean ====
section
/-! DEFINITION. The owner's step of each request (9.7): the mailbox has taken and checked the request and handed it
over, with its arguments (R141, entry 9). A step for a request that is not the one handed over has no effect (entry 4). -/

namespace Sys2Proof.Machine

/-- The request `f` that the mailbox has handed over is carried out by its owner. -/
def ownerStep (f : Fn) (s : State) : Host.Outcome State Fault Refusal :=
  .next (if s.resetLow then s else if handedFn s = some f then settle (doWork .atOnce f s) else s)

/-- RELEASE_CAVITY (R94). -/
def execReleaseCavity (s : State) : Host.Outcome State Fault Refusal := ownerStep .releaseCavity s

/-- EXCLUDE_CAVITY (R95). -/
def execExcludeCavity (s : State) : Host.Outcome State Fault Refusal := ownerStep .excludeCavity s

/-- INCLUDE_CAVITY (R96). -/
def execIncludeCavity (s : State) : Host.Outcome State Fault Refusal := ownerStep .includeCavity s

/-- SET_PATH_ENABLES (R71). -/
def execSetPathEnables (s : State) : Host.Outcome State Fault Refusal := ownerStep .setPathEnables s

/-- ACKNOWLEDGE_STOP (R113). -/
def execAcknowledgeStop (s : State) : Host.Outcome State Fault Refusal := ownerStep .acknowledgeStop s

/-- SAVE_CONTEXT (R102, R103). -/
def execSaveContext (s : State) : Host.Outcome State Fault Refusal := ownerStep .saveContext s

/-- RESTORE_CONTEXT (R105). -/
def execRestoreContext (s : State) : Host.Outcome State Fault Refusal := ownerStep .restoreContext s

/-- RELOAD_PLAN (R151). -/
def execReloadPlan (s : State) : Host.Outcome State Fault Refusal := ownerStep .reloadPlan s

/-- SET_OVERLAY (R133). -/
def execSetOverlay (s : State) : Host.Outcome State Fault Refusal := ownerStep .setOverlay s

/-- DUMP_CHANNELS (R53). -/
def execDumpChannels (s : State) : Host.Outcome State Fault Refusal := ownerStep .dumpChannels s

end Sys2Proof.Machine
end

