-- ==== Sys2Proof/Machine/ResetCommands.lean ====
section
/-! DEFINITION. The commands of the RESET pin (R139, R144, R145). -/

namespace Sys2Proof.Machine

/-- RESET_ASSERTED (R139); with RESET already low nothing changes (entry 4). -/
def execResetAsserted (performing : Bool) (s : State) : Host.Outcome State Fault Refusal :=
  .next (if s.resetLow then s else assertReset performing s)

/-- RESET_RELEASED (R145); with RESET already high nothing changes (entry 4). -/
def execResetReleased (anchor1 anchor0 : Bool) (s : State) : Host.Outcome State Fault Refusal :=
  .next (if s.resetLow then releaseReset anchor1 anchor0 s else s)

end Sys2Proof.Machine
end

