-- ==== Sys2Proof/Machine/TimerCommands.lean ====
section
/-! DEFINITION. The line tick and the expiries of the timers it drives (R155, R10, R30, R118, R150). A timer that has
reached its limit holds there until its expiry, a step of its own, is taken (entry 14). -/

namespace Sys2Proof.Machine

/-- A count of ticks that holds at its limit. -/
def tickUpTo (limit n : Nat) : Nat := if limit ≤ n then n else n + 1

/-- The window-limit timer at a tick (R10). -/
def tickLimit (pl : Plan) (t : Tracker) : Tracker := { t with limitTimer := t.limitTimer.map (tickUpTo pl.windowLimit) }

/-- A silence timer at a tick (R30). -/
def tickSilence (pl : Plan) (x : Assembler) : Assembler :=
  { x with silenceTimer := x.silenceTimer.map (tickUpTo pl.silenceLimit) }

/-- The timers of an open window at a tick (R10, R30). -/
def tickWindow (s : State) : State :=
  match s.runningPlan with
  | some pl =>
    if s.isOpen then (s.setTracker (tickLimit pl s.tracker)).setAsm (s.asm.map (tickSilence pl)) else s
  | none => s

/-- The MARK pulse timer at a tick (R118, R119). -/
def tickPulse (o : Outputs) : Outputs :=
  { o with pulse := o.pulse.map fun p => { p with count := tickUpTo p.width p.count } }

/-- The plan retry timer at a tick, in NO PLAN (R150). -/
def tickRetry (l : Loader) : Loader :=
  match l.run with
  | .noPlan => { l with retry := l.retry.map (tickUpTo Config.retryTicks) }
  | .loading => l
  | .running => l

/-- LINE_TICK (R155): one tick; the 20,000 cycles of CLK that make it are left out (entry 24). -/
def execLineTick (s : State) : Host.Outcome State Fault Refusal :=
  .next (if s.resetLow then s
    else
      let s1 := tickWindow s
      (s1.setOut (tickPulse s1.out)).setLoader (tickRetry s1.loader))

/-- The window-limit timer has reached the plan's window limit while OPEN (R10). -/
def limitReached (s : State) : Bool :=
  match s.runningPlan, s.tracker.limitTimer with
  | some pl, some n => s.isOpen && pl.windowLimit ≤ n
  | some _, none => false
  | none, _ => false

/-- WINDOW_LIMIT_EXPIRY (R10): the window is abandoned with reason OVERLONG. -/
def execWindowLimitExpiry (s : State) : Host.Outcome State Fault Refusal :=
  .next (if s.resetLow then s else if limitReached s then settle (abandonWindow .overlong s) else s)

/-- The silence timer of window `i` has reached the plan's silence limit while OPEN (R30). -/
def silenceReached (i : Nat) (s : State) : Bool :=
  match s.runningPlan, (s.assembler i).silenceTimer with
  | some pl, some n => s.isOpen && i < pl.windows.length && pl.silenceLimit ≤ n
  | some _, none => false
  | none, _ => false

/-- The silence timer of window `i` expires (R30, R33). -/
def expireSilence (i : Nat) (s : State) : State :=
  raiseCaptureFault i .silent
    (s.setAssembler i { s.assembler i with silenceTimer := none, silenceLatch := true })

/-- SILENCE_EXPIRY (R30). -/
def execSilenceExpiry (w : Fin 4) (s : State) : Host.Outcome State Fault Refusal :=
  .next (if s.resetLow then s else if silenceReached w.val s then expireSilence w.val s else s)

/-- The MARK pulse has lasted its width (R118). -/
def pulseReached (s : State) : Bool := s.out.pulse.any fun p => p.width ≤ p.count

/-- MARK_PULSE_EXPIRY (R118): MARK returns low and the timer stops. -/
def execMarkPulseExpiry (s : State) : Host.Outcome State Fault Refusal :=
  .next (if s.resetLow then s else if pulseReached s then s.setOut { s.out with pulse := none } else s)

/-- The retry timer has reached 2000 in NO PLAN (R150). -/
def retryReached (s : State) : Bool :=
  s.loader.run == .noPlan && s.loader.retry.any fun n => Config.retryTicks ≤ n

/-- RETRY_TIMER_EXPIRY (R150): a new load begins. -/
def execRetryTimerExpiry (s : State) : Host.Outcome State Fault Refusal :=
  .next (if s.resetLow then s else if retryReached s then settle (beginLoad s) else s)

end Sys2Proof.Machine
end

