-- ==== Sys2Proof/Machine/Dispatch.lean ====
section
/-! DEFINITION. The meaning of every command. -/

namespace Sys2Proof.Machine

def exec (i : Instr) (s : State) : Host.Outcome State Fault Refusal :=
  match i with
  | .resetAsserted b => Sys2Proof.Machine.execResetAsserted b s
  | .resetReleased a1 a0 => Sys2Proof.Machine.execResetReleased a1 a0 s
  | .controllerWrite t => Sys2Proof.Machine.execControllerWrite t s
  | .controllerRead t => Sys2Proof.Machine.execControllerRead t s
  | .pressStateWord t => Sys2Proof.Machine.execPressStateWord t s
  | .windowLimitExpiry => Sys2Proof.Machine.execWindowLimitExpiry s
  | .captureRingWrite t => Sys2Proof.Machine.execCaptureRingWrite t s
  | .silenceExpiry w => Sys2Proof.Machine.execSilenceExpiry w s
  | .frameTaken => Sys2Proof.Machine.execFrameTaken s
  | .channelClose => Sys2Proof.Machine.execChannelClose s
  | .publish => Sys2Proof.Machine.execPublish s
  | .waitingWorkReleased => Sys2Proof.Machine.execWaitingWorkReleased s
  | .markPulseExpiry => Sys2Proof.Machine.execMarkPulseExpiry s
  | .noticeConsumerWrite t => Sys2Proof.Machine.execNoticeConsumerWrite t s
  | .mailboxWordWrite t => Sys2Proof.Machine.execMailboxWordWrite t s
  | .releaseCavity => Sys2Proof.Machine.execReleaseCavity s
  | .excludeCavity => Sys2Proof.Machine.execExcludeCavity s
  | .includeCavity => Sys2Proof.Machine.execIncludeCavity s
  | .setPathEnables => Sys2Proof.Machine.execSetPathEnables s
  | .acknowledgeStop => Sys2Proof.Machine.execAcknowledgeStop s
  | .saveContext => Sys2Proof.Machine.execSaveContext s
  | .restoreContext => Sys2Proof.Machine.execRestoreContext s
  | .reloadPlan => Sys2Proof.Machine.execReloadPlan s
  | .setOverlay => Sys2Proof.Machine.execSetOverlay s
  | .dumpChannels => Sys2Proof.Machine.execDumpChannels s
  | .postPerformed => Sys2Proof.Machine.execPostPerformed s
  | .fetchPerformed => Sys2Proof.Machine.execFetchPerformed s
  | .queueRoomPlacement p => Sys2Proof.Machine.execQueueRoomPlacement p s
  | .retryTimerExpiry => Sys2Proof.Machine.execRetryTimerExpiry s
  | .lineTick => Sys2Proof.Machine.execLineTick s
  | .frameFinished => Sys2Proof.Machine.execFrameFinished s

end Sys2Proof.Machine
end

