-- ==== Sys2Proof/Safety.lean ====
section
/-! DEFINITION. What counts as a sound state of the part, in the terms that claims use: bounds that the manual sets,
relations between the blocks' states, and what the placing of waiting entries may change. -/

namespace Sys2Proof.Machine

/-- The bounds of the manual: memory in canonical form, the outbound queue holds at most 32 entries (R134), the turn
count is at most 4 (R138), the mark queue holds at most 8 entries (R116), and there are four assemblers and 64
accumulator sets. -/
structure State.Bounded (s : State) : Prop where
  memory : memWf s.mem = true
  queue : s.path.queue.length ≤ Config.queueCapacity
  turn : s.path.turn ≤ Config.turnLimit
  marks : s.out.marks.length ≤ Config.markCapacity
  assemblers : s.asm.length = 4
  accums : s.eval.accums.length = 64

/-- No POST that has lost all four lanes to controller writes stands in the outbound queue, or waits for it (R135). -/
structure State.NoneOverwritten (s : State) : Prop where
  queue : s.path.queue.all Entry.stays = true
  image : s.table.items.all Entry.stays = true
  dump : s.eval.dump.all Entry.stays = true
  fetches : s.loader.items.all Entry.stays = true

/-- How many contexts the table holds: one per defined profile, none without a plan (R98). -/
def State.contextCount (s : State) : Nat :=
  match s.loader.plan with
  | some pl => pl.profiles.length
  | none => 0

/-- How the states of the blocks go together: a plan is held exactly while RUNNING (R145), contexts exist exactly for
its profiles (R98), a profile is active exactly outside NO MOULD and names a context (R99), the window-limit timer runs
exactly while OPEN (R10) and silence timers run only then (R30), close processing is under way exactly in CLOSING (R13),
a held result set exists only with an active profile (R51), the retry timer runs only in NO PLAN (R150), a load is in
flight only in LOADING (R145), and a frame is worked on only while RUNNING (R34). -/
structure State.Consistent (s : State) : Prop where
  plan : s.loader.run = .running ↔ s.loader.plan.isSome = true
  load : s.loader.phase ≠ .idle → s.loader.run = .loading
  retry : s.loader.retry.isSome = true → s.loader.run = .noPlan
  contexts : s.table.contexts.length = s.contextCount
  active : ∀ p, s.tracker.active = some p → p < s.table.contexts.length
  noMould : s.tracker.state = .noMould ↔ s.tracker.active = none
  limit : s.tracker.limitTimer.isSome = true ↔ s.tracker.state = .opened
  silence : ∀ x ∈ s.asm, x.silenceTimer.isSome = true → s.tracker.state = .opened
  closing : s.closing.stage = .idle ↔ s.tracker.state ≠ .closing
  items : s.closing.items ≠ [] → s.closing.stage = .placing
  held : s.eval.held.isSome = true → s.tracker.state ≠ .noMould
  busy : s.eval.busy.isSome = true → s.loader.run = .running

/-- The notice ring in use is the held plan's, and both indices lie in it (R120, R128, R129). -/
structure State.RingSound (s : State) : Prop where
  plan : ∀ pl, s.loader.plan = some pl →
    s.report.ring = some { base := pl.ringBase, size := pl.ringSize, kindMask := pl.kindMask }
  indices : ∀ r, s.report.ring = some r → s.report.producer < r.size ∧ s.report.consumer < r.size

/-- `t` is `s` after waiting entries have been placed: what the placing of entries may change is the outbound queue,
which only grows at its back, the mark queue, which only grows at its back, and the blocks' lists of what is still to
be placed with the completions that follow from it (R134, R142, R126). Everything else is as in `s`. -/
structure Settled (s t : State) : Prop where
  mem : t.mem = s.mem
  resetLow : t.resetLow = s.resetLow
  anchor : t.anchor = s.anchor
  overlay : t.path.overlay = s.path.overlay
  turn : t.path.turn = s.path.turn
  held : t.path.held = s.path.held
  reads : t.path.reads = s.path.reads
  queue : ∃ es, t.path.queue = s.path.queue ++ es
  run : t.loader.run = s.loader.run
  plan : t.loader.plan = s.loader.plan
  fault : t.loader.fault = s.loader.fault
  retry : t.loader.retry = s.loader.retry
  phase : t.loader.phase = s.loader.phase
  buf : t.loader.buf = s.loader.buf
  tracker : t.tracker = s.tracker
  stage : t.closing.stage = s.closing.stage
  asm : t.asm = s.asm
  accums : t.eval.accums = s.eval.accums
  busy : t.eval.busy = s.eval.busy
  heldSet : t.eval.held = s.eval.held
  frames : t.eval.frames = s.eval.frames
  contexts : t.table.contexts = s.table.contexts
  stopLatch : t.out.stopLatch = s.out.stopLatch
  stopHigh : t.out.stopHigh = s.out.stopHigh
  pulse : t.out.pulse = s.out.pulse
  marks : ∃ ms, t.out.marks = s.out.marks ++ ms
  published : t.report.published = s.report.published
  building : t.report.building = s.report.building
  consumer : t.report.consumer = s.report.consumer
  ring : t.report.ring = s.report.ring
  fn : t.mail.fn = s.mail.fn
  args : t.mail.args = s.mail.args
  expected : t.mail.expected = s.mail.expected
  disturbed : t.mail.disturbed = s.mail.disturbed
  serial : t.mail.serial = s.mail.serial
  pending : t.pending = s.pending

/-- The command ends in the state `x` with its waiting entries placed as far as there is room. -/
def EndsIn (o : Host.Outcome State Fault Refusal) (x : State) : Prop := o = .next (settle x) ∧ Settled x (settle x)

/-! ## Terms of the claims about the controller port -/

/-- A write burst of one word. -/
def oneWord (a : Addr) (d : Word) (l : Lanes) : WriteBurst := { addr := a, words := [{ data := d, lanes := l }] }

/-- The memory path takes a transaction that arrives at once (R131, R138). -/
def State.takes (s : State) : Prop :=
  s.resetLow = false ∧ s.path.held = [] ∧ (s.path.turn < Config.turnLimit ∨ s.path.queue = [])

/-- The command with which a transaction that is held at the controller port arrives (R131). -/
def Txn.command : Txn → Instr
  | .write t => .controllerWrite t
  | .read t => .controllerRead t

/-- The byte address lies outside the anchor region (R144). -/
def State.outsideAnchor (s : State) (a : Nat) : Prop := a < s.base ∨ s.base + Config.anchorBytes ≤ a

/-- The word at `a` lies in no region that a block watches (R132). -/
def State.unwatched (s : State) (a : Nat) : Prop :=
  (a < s.base + 4 ∨ s.base + 0x3C < a) ∧ a ≠ s.base + 0x48 ∧
    ∀ pl, s.runningPlan = some pl → a ≠ pl.stateWordAddr ∧ ∀ w ∈ pl.windows, w.inRing a = false

/-- The word at `a` is a word of the ring of capture window `i`, and of no other watched region. -/
def State.ringWord (s : State) (pl : Plan) (i : Nat) (w : WindowPlan) (a : Nat) : Prop :=
  s.runningPlan = some pl ∧ pl.windows[i]? = some w ∧ w.inRing a = true ∧
    (∀ j v, j < i → pl.windows[j]? = some v → v.inRing a = false) ∧ a ≠ pl.stateWordAddr ∧ s.outsideAnchor a

/-- The word at `a` is the press state word of the held plan. -/
def State.stateWordAt (s : State) (pl : Plan) (a : Nat) : Prop :=
  s.runningPlan = some pl ∧ a = pl.stateWordAddr ∧ s.outsideAnchor a

/-- Memory with every POST of a queue performed in order. -/
def performAll : List Entry → List Host.Cell → List Host.Cell
  | [], m => m
  | .post a w _ :: q, m => performAll q (writeWord m a w)
  | .fetch _ _ :: q, m => performAll q m

/-- A POST to a word address whose overwritten lanes hold what memory holds (R135). -/
def Entry.agrees (m : List Host.Cell) (e : Entry) : Prop :=
  match e with
  | .post a w o => a % 4 = 0 ∧ ∀ k, k < 4 → o.getLsbD k = true → laneOf w k = readByte m (a + k)
  | .fetch _ _ => True

/-- An older POST has lost every lane that a younger one to the same address has lost (R135). -/
def Entry.lostMore (e f : Entry) : Prop :=
  match e, f with
  | .post a _ o, .post b _ p => a = b → ∀ k, k < 4 → p.getLsbD k = true → o.getLsbD k = true
  | .post _ _ _, .fetch _ _ => True
  | .fetch _ _, _ => True

/-- How the overwritten lanes of queued POSTs and memory go together under R131, R135 and R137. -/
def Coherent (m : List Host.Cell) (q : List Entry) : Prop :=
  memWf m = true ∧ (∀ e ∈ q, e.agrees m) ∧ q.Pairwise Entry.lostMore

/-! ## Terms of the claims about requests and loads -/

/-- The mailbox has handed over request `f` with arguments `args`, and RESET is high. -/
def State.handed (s : State) (f : Fn) (args : List Nat) : Prop :=
  s.resetLow = false ∧ s.mail.work = some { fn := f, args := args, phase := .handed }

/-- Cavity `c` of context `p` is `v`. -/
def State.hasCavity (s : State) (p c : Nat) (v : CavityCtx) : Prop :=
  ∃ x, s.table.contexts[p]? = some x ∧ x.cavities[c]? = some v

/-- The contexts with cavity `c` of context `p` replaced by `v`. -/
def State.withCavity (s : State) (p c : Nat) (v : CavityCtx) : State :=
  s.setTable { s.table with
    contexts := s.table.contexts.modify p fun x => { x with cavities := x.cavities.set c v } }

/-- The request `f` with arguments `args` has been carried out with result `r`: its DONE status is to be placed. -/
def State.finished (s : State) (f : Fn) (args : List Nat) (r : Result) : State :=
  s.setMail { s.mail with
    work := some { fn := f, args := args, phase := .done }, items := s.mail.items ++ [.done r s.loader.fault] }

/-- The word of a DONE status (11.4): state code 2, disturbed flag, serial, function code, result code, and the plan
fault reason for PLAN REJECTED. -/
def doneStatus (m : Mailbox) (r : Result) (fault : PlanFault) : Word :=
  BitVec.ofNat 32
    (2 + (if m.disturbed then 2 ^ 7 else 0) + m.serial % 256 * 2 ^ 8 + m.fn.toNat % 256 * 2 ^ 16 + r.code * 2 ^ 24
      + if r = .planRejected then fault.code * 2 ^ 28 else 0)

/-- The REQUEST DONE notice for a serial and a result has been raised (R142). -/
def State.requestDone (serial : Nat) (r : Result) (s : State) : State :=
  raiseNotice none
    { kind := .requestDone, profile := s.tracker.active, subject := serial, cycle := s.tracker.openCycle, detail := r.code } s

/-- The mailbox item is a DONE status whose request is still held (R142). -/
def MailItem.isDone : MailItem → Bool
  | .done _ _ => true
  | .taken _ => false
  | .finished _ _ _ => false

/-- What a cavity request makes of a cavity, `x` being its third argument (R71, R94 to R96). -/
def Fn.cavityAfter (f : Fn) (x : Nat) (v : CavityCtx) : CavityCtx :=
  match f with
  | .releaseCavity =>
    if x = 0 then
      { v with
        state := .learning, score := 0, confirm := 0, learned := 0, bound := none
        slots := List.replicate v.slots.length { b := 0, n := 0 } }
    else { v with state := .sound, score := 0, confirm := 0, bound := none }
  | .excludeCavity => { v with state := .excluded, score := 0, confirm := 0, bound := none, blind := false }
  | .includeCavity => { v with state := .learning, learned := 0, score := 0, confirm := 0, bound := none, blind := false }
  | .setPathEnables => { v with enables := BitVec.ofNat 4 x }
  | .acknowledgeStop | .saveContext | .restoreContext | .reloadPlan | .setOverlay | .dumpChannels => v

/-- The cavity request `f` on cavity `c` of profile `p`, which is `v`, has been carried out: a changed state raises one
CAVITY STATE notice, which is placed before the status (R93). -/
def State.cavityDone (f : Fn) (args : List Nat) (p c : Nat) (v : CavityCtx) (s : State) : State :=
  let u := f.cavityAfter (args.getD 2 0) v
  let t := s.withCavity p c u
  (if u.state = v.state then t
    else raiseNotice (some .mailbox)
      { kind := .cavityState, profile := some p, subject := c, cycle := s.tracker.openCycle,
        detail := v.state.code + 256 * u.state.code } t).finished f args .ok

/-- The state in which a load begins, field by field (R145, R151, R34, R54, R120): what the rule does not name is held.
The FETCHes of a load in flight stay queued, and their words will be dropped. -/
def loadBegun (s : State) : State :=
  { s with
    path := { s.path with queue := s.path.queue.map Entry.drop }
    loader :=
      { run := .loading, plan := none, fault := s.loader.fault, retry := none, phase := .header, buf := []
        items := [.fetch (s.base + 0x400) .planLoader, .fetch (s.base + 0x404) .planLoader,
          .fetch (s.base + 0x408) .planLoader, .fetch (s.base + 0x40C) .planLoader] }
    tracker :=
      { state := .noMould, active := none, last := none, openCycle := 0, lateStart := false, lastAbandoned := none,
        deferredOpen := false, limitTimer := none, unknownNote := none }
    closing := { stage := .idle, items := [] }
    asm := List.replicate 4 Assembler.start
    eval := { accums := List.replicate 64 (Accum.cleared 0), busy := none, held := none, dump := s.eval.dump, frames := s.eval.frames }
    table := { s.table with contexts := [] }
    report := { s.report with published := List.replicate 61 0 } }

/-- The values that a cavity's items may hold (R61, R97, R107), for the cavity table's entry `p`: bound and reported
slots are installed, a bound slot and a confirm count stand only in SUSPECT and CRACKED, the score is 0 in LEARNING and
EXCLUDED, and an EXCLUDED cavity is not blind. -/
structure CavityCtx.Legal (p : CavityPlan) (c : CavityCtx) : Prop where
  bound : ∀ k, c.bound = some k → p.has k = true ∧ (c.state = .suspect ∨ c.state = .cracked)
  reported : ∀ k, c.reported = some k → p.has k = true
  unscored : c.state = .learning ∨ c.state = .excluded → c.score = 0
  confirm : c.confirm ≠ 0 → c.state = .suspect ∨ c.state = .cracked
  seen : c.state = .excluded → c.blind = false
  score : c.score ≤ 65535
  count : c.confirm ≤ 7
  learned : c.learned ≤ 256
  slots : c.slots.length = 4
  baselines : ∀ y ∈ c.slots, y.b ≤ 524288 ∧ y.n ≤ 256

/-- A context that belongs to profile `q` (R97): one legal cavity part for each cavity, and one channel part, with an offset in
range, for each channel of the profile in ascending order. -/
structure Context.Legal (q : ProfilePlan) (c : Context) : Prop where
  count : c.cavities.length = q.cavities.length
  cavities : ∀ x ∈ q.cavities.zip c.cavities, x.2.Legal x.1
  channels : c.channels.map (fun x => x.number) = q.chans
  offsets : ∀ x ∈ c.channels, -32768 ≤ x.offset ∧ x.offset ≤ 32767

/-- A legal context in the table for every profile of the held plan (R61, R97, R107), with what keeps it so: learning
exponents of at most 8 (R148), sums of samples in range (R37), and a checked image that has passed the field check for
its profile (R107, R108). -/
structure State.LegalContexts (s : State) : Prop where
  exponents : ∀ pl, s.loader.plan = some pl → ∀ q ∈ pl.profiles, q.w ≤ 8
  contexts : ∀ (pl : Plan) (p : Nat) (q : ProfilePlan) (c : Context), s.loader.plan = some pl → pl.profiles[p]? = some q → s.table.contexts[p]? = some c → Context.Legal q c
  sums : ∀ a ∈ s.eval.accums, -32768 * (a.n : Int) ≤ a.s1 ∧ a.s1 ≤ 32767 * (a.n : Int)
  restore : ∀ w, s.mail.work = some w → (w.phase = .reading ∨ w.phase = .checked) → w.fn = .restoreContext
  image : ∀ (w : Work) (pl : Plan) (q : ProfilePlan), s.mail.work = some w → w.phase = .checked → s.loader.plan = some pl →
    pl.profiles[w.args.getD 0 0]? = some q → imageFieldsOk q s.table.buf = true

/-! ## Terms of the claims about the press cycle -/

/-- An accepted word `w` has become the last one, and the DEMOULD-entry event has advanced the mark queue if the previous
accepted phase was not DEMOULD; its mould id and its phase are still to be handled (R12). -/
def State.wordTaken (pl : Plan) (w : StateWord) (s : State) : State :=
  let u := s.setTracker { s.tracker with last := some w }
  if w.phase = .demould ∧ (s.tracker.last.map fun v => v.phase) ≠ some .demould then advanceMarks pl w.cycle u else u

/-- A window has opened for cycle `cycle` and context `c` (R7, R30, R33, R36, R38). -/
def State.windowOpened (pl : Plan) (c : Context) (cycle : Nat) (late : Bool) (s : State) : State :=
  ((s.setTracker { s.tracker with
        state := .opened, openCycle := cycle, lateStart := late, lastAbandoned := none, deferredOpen := false
        limitTimer := some 0 }).setAsm
      (s.asm.mapIdx fun i x =>
        if i < pl.windows.length then
          { x with silenceTimer := some 0, silenceLatch := false, overrun := 0, broken := 0, gap := 0,
                   overrunRaised := false, formatRaised := false }
        else x)).setEval
    { s.eval with accums := (List.range 64).map fun n => Accum.cleared (offsetInUse c n) }

/-- The open window has been abandoned with a reason code, and waiting work is still to be released (R11, R29). The cleared
sums are entry 16, the subject 0 is entry 28. -/
def State.abandoned (code : Nat) (s : State) : State :=
  raiseNotice none
    { kind := .windowAbandoned, profile := s.tracker.active, subject := 0, cycle := s.tracker.openCycle, detail := code }
    (((s.setTracker { s.tracker with
            state := .armed, limitTimer := none, lastAbandoned := some s.tracker.openCycle, deferredOpen := false }).setEval
        { s.eval with accums := List.replicate 64 (Accum.cleared 0), busy := none }).setAsm
      (s.asm.mapIdx fun i x =>
        { x with
          silenceTimer := none
          slot0 := if s.eval.busy = some (i, false) then none else x.slot0
          slot1 := if s.eval.busy = some (i, true) then none else x.slot1 }))

/-- A snapshot of profile `p` with plan entry `q` and context `c` has been taken for the SAVE CONTEXT to address `a` that
is in flight, and its words are to be placed (R102, R103). -/
def State.snapshot (pl : Plan) (q : ProfilePlan) (c : Context) (kind : SnapshotKind) (p a : Nat) (s : State) : State :=
  (s.setTable { s.table with
      buf := imageOf s pl q p kind c
      items := (imageOf s pl q p kind c).mapIdx fun i w => .post (a + 4 * i) w 0 }).setMail
    { s.mail with work := some { fn := .saveContext, args := [p, a], phase := .placing } }

/-- The checked image of the RESTORE CONTEXT in flight has been committed into the active profile `p` with plan entry
`q`, and the activation bank of the new context published (R109). -/
def State.committed (q : ProfilePlan) (p a : Nat) (s : State) : State :=
  (setPublished (activationBank s p (readContext q s.table.buf))
    (s.setTable { s.table with
      contexts := s.table.contexts.set p (readContext q s.table.buf), buf := [] })).finished .restoreContext [p, a] .ok

/-- What the release of waiting work at an abandon makes of `s` (R15): nothing, or a snapshot AT ABANDON or a commit, with
what it places, its status among it, placed as far as there is room (R142, entry 29). -/
def AbandonReleases (pl : Plan) (s t : State) : Prop :=
  ((∀ w, s.mail.work = some w → w.phase ≠ .waiting ∧ w.phase ≠ .checked) ∧ t = s) ∨
  (∃ p a q c, s.mail.work = some { fn := .saveContext, args := [p, a], phase := .waiting } ∧ pl.profiles[p]? = some q ∧
    s.table.contexts[p]? = some c ∧ t = settle (s.snapshot pl q c .atAbandon p a)) ∨
  (∃ p a q, s.mail.work = some { fn := .restoreContext, args := [p, a], phase := .checked } ∧ pl.profiles[p]? = some q ∧
    p < s.table.contexts.length ∧ s.tracker.active = some p ∧ t = settle (s.committed q p a))

/-- What the applying of mould id `id` makes of `s`. The first profile with that id becomes active, its context is used
unchanged, ACTIVE PROFILE is raised and its activation bank is published (R4). Without one the tracker enters NO MOULD,
a bank of zeros is published, and MOULD UNKNOWN is raised unless the same id has just been noted, never for id 0 (R5). -/
def MouldApplies (pl : Plan) (id : Nat) (s t : State) : Prop :=
  (∃ p q c, id ≠ 0 ∧ pl.profiles[p]? = some q ∧ q.mouldId = id ∧
    (∀ i v, i < p → pl.profiles[i]? = some v → v.mouldId ≠ id) ∧ s.table.contexts[p]? = some c ∧
      let u :=
        (s.setTracker { s.tracker with state := .armed, active := some p, unknownNote := none }).setEval
          { s.eval with held := none }
      t = setPublished (activationBank u p c)
        (raiseNotice none
          { kind := .activeProfile, profile := some p, subject := id, cycle := s.tracker.openCycle, detail := 0 } u)) ∨
  ((id = 0 ∨ ∀ q ∈ pl.profiles, q.mouldId ≠ id) ∧
    let u :=
      setPublished (List.replicate 61 0)
        ((s.setTracker { s.tracker with
            state := .noMould, active := none, unknownNote := if id = 0 then none else some id }).setEval
          { s.eval with held := none })
    t =
      if id = 0 ∨ s.tracker.unknownNote = some id then u
      else raiseNotice none
        { kind := .mouldUnknown, profile := none, subject := id, cycle := s.tracker.openCycle, detail := 0 } u)

/-- What step 6 of close processing makes of `s`, with last accepted word `w` and `mould` the id of the active profile
(R14): a differing mould id is applied, and then the deferred open takes place if its flag is set, a profile is active
and the last phase is VIBRATE. -/
def StepSixGives (pl : Plan) (w : StateWord) (mould : Nat) (s t : State) : Prop :=
  let v := (s.setTracker { s.tracker with state := .armed }).setClosing { stage := .idle, items := [] }
  ∃ x, ((w.mould = mould ∧ x = v) ∨ (w.mould ≠ mould ∧ MouldApplies pl w.mould v x)) ∧
    ((∃ p c, s.tracker.deferredOpen = true ∧ w.phase = .vibrate ∧ x.tracker.active = some p ∧ x.table.contexts[p]? = some c ∧
        t = x.windowOpened pl c w.cycle true) ∨
      ((s.tracker.deferredOpen = false ∨ w.phase ≠ .vibrate ∨ x.tracker.active = none) ∧
        t = x.setTracker { x.tracker with deferredOpen := false }))

/-! ## Terms of the claims about plans (R147, R154) -/

/-- Two byte ranges (start, length) have no byte in common. -/
def apart (x y : Nat × Nat) : Prop := x.1 + x.2 ≤ y.1 ∨ y.1 + y.2 ≤ x.1

/-- The window entries of check 3, for anchor base `base`. -/
structure Plan.WindowsFit (base : Nat) (p : Plan) : Prop where
  count : 1 ≤ p.windows.length ∧ p.windows.length ≤ 4
  fields : ∀ w ∈ p.windows, 1 ≤ w.scans ∧ w.scans ≤ 16 ∧ 1 ≤ w.chans.length ∧ w.chans.length ≤ 16 ∧ 1 ≤ w.frames ∧ w.frames ≤ 4096
  rings : ∀ w ∈ p.windows, w.base % 4 = 0 ∧ w.base + w.ringBytes ≤ 2 ^ 24 ∧ apart (w.base, w.ringBytes) (base, 0x2400)
  separate : p.windows.Pairwise fun v w => apart (v.base, v.ringBytes) (w.base, w.ringBytes)

/-- The channel section and the channel lists of check 4. -/
structure Plan.ChannelsFit (p : Plan) : Prop where
  count : 1 ≤ p.channels.length ∧ p.channels.length ≤ 64
  numbers : ∀ c ∈ p.channels, c.number < 64
  defined : (p.channels.map fun c => c.number).Nodup
  listed : (p.windows.flatMap fun w => w.chans).Nodup
  same : ∀ n, n ∈ (p.channels.map fun c => c.number) ↔ n ∈ p.windows.flatMap fun w => w.chans

/-- The profile entries of check 5. -/
structure Plan.ProfilesFit (p : Plan) : Prop where
  count : 1 ≤ p.profiles.length ∧ p.profiles.length ≤ 4
  moulds : (p.profiles.map fun q => q.mouldId).Nodup
  fields : ∀ q ∈ p.profiles, 1 ≤ q.mouldId ∧ q.mouldId ≤ 15 ∧ q.h < q.t1 ∧ q.t1 < q.t2 ∧ q.t2 < q.t3 ∧
    1 ≤ q.cavities.length ∧ q.cavities.length ≤ 48 ∧ 1 ≤ q.groups ∧ q.groups ≤ 8

/-- The cavity tables of check 6. -/
structure Plan.CavitiesFit (p : Plan) : Prop where
  slots : ∀ q ∈ p.profiles, ∀ c ∈ q.cavities, ∀ k : Fin 4, c.has k = true → c.chan k ∈ p.windows.flatMap fun w => w.chans
  groups : ∀ q ∈ p.profiles, ∀ c ∈ q.cavities, c.group < q.groups
  sizes : ∀ q ∈ p.profiles, ∀ g, (q.cavities.filter fun c => c.group == g).length ≤ 12
  long : ∀ q ∈ p.profiles, q.recordFormat = .long → ∀ c ∈ q.cavities, c.longAddr % 4 = 0 ∧ c.longAddr + 64 ≤ 2 ^ 24

/-- The notice ring of check 7. -/
structure Plan.RingFits (p : Plan) : Prop where
  size : p.ringSize ∈ [16, 32, 64, 128, 256, 512, 1024]
  place : p.ringBase % 4 = 0 ∧ p.ringBase + 16 * p.ringSize ≤ 2 ^ 24

/-- The areas that check 8 compares: state word, notice ring, and the record area of each SHORT profile or the
long-record areas of each LONG one. -/
def Plan.areas (p : Plan) : List (Nat × Nat) :=
  (p.stateWordAddr, 4) :: (p.ringBase, 16 * p.ringSize) :: p.profiles.flatMap fun q =>
    if q.recordFormat = .short then [(q.recordOrigin, 32 * q.cavities.length)] else q.cavities.map fun c => (c.longAddr, 64)

/-- The addresses of check 8 (that two long-record areas must be apart is entry 18). -/
structure Plan.AddressesFit (base : Nat) (p : Plan) : Prop where
  stateWord : p.stateWordAddr % 4 = 0
  records : ∀ q ∈ p.profiles, q.recordFormat = .short →
    q.recordOrigin % 4 = 0 ∧ q.recordOrigin + 32 * q.cavities.length ≤ 2 ^ 24
  separate : p.areas.Pairwise apart
  clear : ∀ x ∈ p.areas, apart x (base, 0x2400) ∧ ∀ w ∈ p.windows, apart x (w.base, w.ringBytes)

/-- The value of `a`..`b` that is nearest to `x` (R148). -/
def nearest (a b x : Nat) : Nat := max a (min b x)

/-- A plan with every tuning value replaced by the nearest one in its range (R148). -/
def Plan.tuned (p : Plan) : Plan :=
  { p with
    windowLimit := nearest 100 30000 p.windowLimit, silenceLimit := nearest 5 1000 p.silenceLimit
    pulseW := nearest 0 255 p.pulseW, pulseP := nearest 0 3 p.pulseP
    channels := p.channels.map fun c =>
      { c with
        nmin := nearest 16 65535 c.nmin, clipLimit := nearest 0 65535 c.clipLimit, th := nearest 1 32767 c.th
        hdt := nearest 1 4096 c.hdt, hlt := nearest 0 65535 c.hlt, dmin := nearest 1 4096 c.dmin }
    profiles := p.profiles.map fun q =>
      { q with
        xd := nearest 0 4095 q.xd, hitWeight := nearest 1 15 q.hitWeight, d := nearest 1 8 q.d, w := nearest 2 8 q.w
        confirmations := nearest 1 7 q.confirmations, delay := nearest 1 7 q.delay } }

/-- The tuning values of a plan, in one list (R148). -/
def Plan.values (p : Plan) : List Nat :=
  [p.windowLimit, p.silenceLimit, p.pulseW, p.pulseP]
    ++ p.channels.flatMap (fun c => [c.nmin, c.clipLimit, c.th, c.hdt, c.hlt, c.dmin])
    ++ p.profiles.flatMap fun q => [q.xd, q.hitWeight, q.d, q.w, q.confirmations, q.delay]

/-- The codes of the window entries, of the channel entries, and of the profile entries at the words `starts`, are listed
ones (11.9): packing, with the half order of PAIR16; channel kind; record mode and record format. -/
def windowCodes (ws : List Word) : Prop :=
  ∀ j, j < windowCount ws →
    let x := (ws.getD (13 + 7 * j) 0).toNat
    x % 4 = 2 ∨ (x % 4 = 1 ∧ (x / 2 ^ 8 % 4 = 1 ∨ x / 2 ^ 8 % 4 = 2))
def channelCodes (ws : List Word) : Prop :=
  ∀ j, j < channelCount ws →
    let x := (ws.getD (12 + 7 * windowCount ws + 4 * j) 0).toNat / 2 ^ 8 % 256
    1 ≤ x ∧ x ≤ 3
def profileCodes (ws : List Word) (starts : List Nat) : Prop :=
  ∀ i ∈ starts, (ws.getD (i + 5) 0).toNat % 4 ≤ 2 ∧ (ws.getD (i + 5) 0).toNat / 2 ^ 4 % 4 ≤ 1

/-! ## Terms of the claims about frames, timers and placing -/

/-- Staging slot `second` (slot 1 if true) of assembler `i` holds frame `f` (R27). -/
def State.staged (s : State) (i : Nat) (second : Bool) (f : Frame) : Prop :=
  ∃ x, s.asm[i]? = some x ∧ (if second then x.slot1 else x.slot0) = some f

/-- The assemblers with the staging slot `second` of assembler `i` made EMPTY. -/
def State.withoutStaged (s : State) (i : Nat) (second : Bool) : List Assembler :=
  s.asm.modify i fun x => if second then { x with slot1 := none } else { x with slot0 := none }

/-- The address is one of the F frame-start addresses of the ring, and the word is a valid header there (R16, R21). -/
def WindowPlan.startsFrame (w : WindowPlan) (a : Nat) (d : Word) : Prop :=
  (∃ j, j < w.frames ∧ a = w.base + j * w.frameWords * 4) ∧ d.toNat / 2 ^ 24 = 0xA6 ∧
    d.toNat / 2 ^ 8 % 256 = w.chans.length ∧ d.toNat % 256 = w.scans

/-- The word of the ring that follows the one at `a`, the first word after the last one (R22). -/
def WindowPlan.following (w : WindowPlan) (a : Nat) : Nat :=
  if a + 4 = w.base + 4 * w.frameWords * w.frames then w.base else a + 4

/-- The notice that names the active profile and the open-window cycle number (R127). -/
def State.naming (s : State) (k : NoticeKind) (subject detail : Nat) : Notice :=
  { kind := k, profile := s.tracker.active, subject := subject, cycle := s.tracker.openCycle, detail := detail }

/-- The states that a list of commands leads to, if each answers a next state. -/
def runAll : List Instr → State → Option State
  | [], s => some s
  | c :: cs, s =>
    match exec c s with
    | .next t => runAll cs t
    | .fault _ => none
    | .refused _ => none

end Sys2Proof.Machine
end

