-- ==== Sys2Proof/Certificates/Slice0/Obligations.lean ====
section
/-! DEFINITION. The statements about the MW48. `EndsIn o x` says that a command answers the next state `x` with its
waiting entries placed, and that placing them leaves every register, context, bank, line latch and byte of memory of `x`
as it is (`Settled`); a statement that gives the next state as updates of `s` says with it that every other field is as
in `s`. -/

open Sys2Proof Sys2Proof.Machine

/-! ## The step, the controller port and memory (chapter 9) -/

/-- A step carries out the command at the front of the queue, on the state with the queue's rest. -/
def Obligations.StepRunsFront : Prop :=
  ∀ (c : Instr) (cs : List Instr) (s : State), s.pending = c :: cs → step s = exec c (s.setPending cs)

/-- What the port turns away. A burst that is no controller transaction (9.1) is refused by every port command, and changes
nothing (entry 5). While the turn count is 4 and the queue is not empty, or an earlier transaction waits, a transaction that
arrives is held: not merged, not served, not forwarded, not snooped (part of R138). -/
def Obligations.RefusedOrHeld : Prop :=
  ((∀ (t : WriteBurst) (s : State),
      (t.words.length ∉ [1, 2, 4, 8] ∨ t.addr.toNat % (4 * t.words.length) ≠ 0) →
        ∀ c ∈ [Instr.controllerWrite t, .pressStateWord t, .captureRingWrite t, .noticeConsumerWrite t, .mailboxWordWrite t],
          exec c s = .refused .notATransaction) ∧
    (∀ (t : ReadBurst) (s : State), (t.len ∉ [1, 2, 4, 8] ∨ t.addr.toNat % (4 * t.len) ≠ 0) →
      exec (.controllerRead t) s = .refused .notATransaction)) ∧
  (∀ (s : State), s.resetLow = false →
    ((Config.turnLimit ≤ s.path.turn ∧ s.path.queue ≠ []) ∨ s.path.held ≠ []) →
      (∀ (t : WriteBurst), t.ok = true →
        ∀ c ∈ [Instr.controllerWrite t, .pressStateWord t, .captureRingWrite t, .noticeConsumerWrite t, .mailboxWordWrite t],
          exec c s = .next (s.setPath { s.path with held := s.path.held ++ [.write t] })) ∧
      (∀ (t : ReadBurst), t.ok = true →
        exec (.controllerRead t) s = .next (s.setPath { s.path with held := s.path.held ++ [.read t] })))

/-- A controller write that is not held reaches memory unchanged, lane by lane, whatever its row and whatever watches
its words, and no other byte of memory changes (parts of R131, R132 and R139). -/
def Obligations.WriteReachesMemory : Prop :=
  ∀ (t : WriteBurst) (s : State), t.ok = true → memWf s.mem = true → (s.resetLow = true ∨ s.takes) →
    ∀ c ∈ [Instr.controllerWrite t, .pressStateWord t, .captureRingWrite t, .noticeConsumerWrite t, .mailboxWordWrite t],
      ∃ u, exec c s = .next u ∧ u.pending = s.pending ∧ u.path.reads = s.path.reads ∧
        (∀ i x, t.words[i]? = some x → ∀ k, k < 4 →
          readByte u.mem (t.addr.toNat + 4 * i + k)
            = if x.lanes.getLsbD k then laneOf x.data k else readByte s.mem (t.addr.toNat + 4 * i + k)) ∧
        ∀ y, (y < t.addr.toNat ∨ t.addr.toNat + 4 * t.words.length ≤ y) → readByte u.mem y = readByte s.mem y

/-- A controller write that is taken is merged into the queue word by word, forwarded with one turn of the port, and then its
words are offered one by one in ascending address order, each to the block of its region; a burst of one word is offered
that word, and a word of no watched region is offered to no block (R19, R131, R132, part of R138). That the five write rows are
this one path, whatever row a burst stands in, is entry 7. One word takes its lanes of every POST to its address, and a POST
that has then lost all four lanes is withdrawn; every other entry stays as it is, in its place (part of R135). While RESET is
low a write is forwarded to memory and changes nothing else: no merge, no snoop, no hold and no turn (part of R139). -/
def Obligations.WriteTaken : Prop :=
  (∀ (t : WriteBurst) (s : State), t.ok = true → s.takes →
    let words := t.words.mapIdx fun i x => (t.addr.toNat + 4 * i, x)
    let m :=
      (s.setPath { s.path with queue := words.foldl mergeWord s.path.queue, turn := min 4 (s.path.turn + 1) }).setMem
        (words.foldl forwardWord s.mem)
    ∀ c ∈ [Instr.controllerWrite t, .pressStateWord t, .captureRingWrite t, .noticeConsumerWrite t, .mailboxWordWrite t],
      exec c s = .next (words.foldl snoopWord m) ∧
        ((∀ x ∈ words, s.unwatched x.1) → exec c s = .next m)) ∧
  (∀ (t : WriteBurst) (s : State), t.ok = true → s.resetLow = true →
    ∀ c ∈ [Instr.controllerWrite t, .pressStateWord t, .captureRingWrite t, .noticeConsumerWrite t, .mailboxWordWrite t],
      exec c s
        = .next (s.setMem ((t.words.mapIdx fun i x => (t.addr.toNat + 4 * i, x)).foldl forwardWord s.mem))) ∧
  (∀ (s : State) (a : Addr) (d : Word) (l : Lanes), s.takes → a.toNat % 4 = 0 →
    ∀ c ∈ [Instr.controllerWrite (oneWord a d l), .pressStateWord (oneWord a d l), .captureRingWrite (oneWord a d l),
        .noticeConsumerWrite (oneWord a d l), .mailboxWordWrite (oneWord a d l)],
      exec c s = .next (snoopWord (mergeAndForward (oneWord a d l) s) (a.toNat, { data := d, lanes := l }))) ∧
  ((∀ (q : List Entry) (a : Nat) (x : WriteWord), q.all Entry.stays = true →
      mergeWord q (a, x) = q.filterMap fun e =>
        match e with
        | .post b w o =>
          if b = a then
            if o ||| x.lanes = 15 then none else some (.post a (mergeLanes w x.data x.lanes) (o ||| x.lanes))
          else some (.post b w o)
        | .fetch b d => some (.fetch b d)) ∧
    (∀ (old new : Word) (l : Lanes) (k : Nat), k < 4 →
      laneOf (mergeLanes old new l) k = if l.getLsbD k then laneOf new k else laneOf old k))

/-- A controller read is served word by word and takes a turn of the port if a word comes from memory; nothing else changes
(parts of R131, R136 and R138). With the overlay on, a word of the verdict window comes from the part: word 0 is the live
word, words 58 and 59 the channels of the plan, and the other words are those of the published bank in their order (parts of
R121, R124 and R133). Any other word comes from the youngest queued POST to it, or from memory. While RESET is low every word,
those of the verdict window included, comes from memory, with no hold and no turn (part of R139). -/
def Obligations.ReadServed : Prop :=
  (∀ (t : ReadBurst) (s : State), t.ok = true → s.takes →
    ∃ (data : List Word) (turn : Nat),
      exec (.controllerRead t) s
          = .next (s.setPath { s.path with reads := s.path.reads ++ [{ addr := t.addr, data := data }], turn := turn }) ∧
        data.length = t.len ∧
        (∀ i, i < t.len →
          let a := t.addr.toNat + 4 * i
          if s.path.overlay = true ∧ s.base + 0x100 ≤ a ∧ a < s.base + 0x200 then
            (a = s.base + 0x100 → data[i]? = some (liveWord s)) ∧
              (∀ j w, s.report.published[j]? = some w → j < 57 → a = s.base + 0x104 + 4 * j → data[i]? = some w) ∧
              (a = s.base + 0x1E8 → data[i]? = some (definedWord s 0)) ∧
              (a = s.base + 0x1EC → data[i]? = some (definedWord s 1)) ∧
              (∀ j w, s.report.published[57 + j]? = some w → j < 4 → a = s.base + 0x1F0 + 4 * j → data[i]? = some w)
          else
            (∀ q r w o, s.path.queue = q ++ .post a w o :: r → (∀ v p, Entry.post a v p ∉ r) → data[i]? = some w) ∧
              ((∀ v p, Entry.post a v p ∉ s.path.queue) → data[i]? = some (readWord s.mem a))) ∧
        turn =
          if ∃ i, i < t.len ∧ (∀ v p, Entry.post (t.addr.toNat + 4 * i) v p ∉ s.path.queue) ∧
              ¬ (s.path.overlay = true ∧ s.base + 0x100 ≤ t.addr.toNat + 4 * i ∧ t.addr.toNat + 4 * i < s.base + 0x200)
          then min 4 (s.path.turn + 1) else s.path.turn) ∧
  (∀ (t : ReadBurst) (s : State), t.ok = true → s.resetLow = true →
    exec (.controllerRead t) s
      = .next (s.setPath { s.path with
          reads := s.path.reads ++
            [{ addr := t.addr, data := (List.range t.len).map fun i => readWord s.mem (t.addr.toNat + 4 * i) }] }))

/-- The read service gives the value that memory would hold if every write taken so far and every POST placed so far had
been performed in order (part of R136): a read of a word answers what memory will hold once the queue is performed; a
controller write changes that value in the lanes that it writes, at its word, and nowhere else; performing the oldest
POST leaves it as it is; placing a POST changes it at its word to the posted word. `Coherent` is kept by all three. -/
def Obligations.QueueIsMemoryToBe : Prop :=
  (∀ m q a, memWf m = true → (∀ e ∈ q, ∀ b w o, e = Entry.post b w o → b % 4 = 0) → a % 4 = 0 →
    readWord (performAll q m) a = (youngestPost a q).getD (readWord m a)) ∧
  (∀ m q a (x : WriteWord), Coherent m q → a % 4 = 0 →
    Coherent (forwardWord m (a, x)) (mergeWord q (a, x)) ∧
      ∀ b, b % 4 = 0 →
        readWord (performAll (mergeWord q (a, x)) (forwardWord m (a, x))) b
          = if b = a then mergeLanes (readWord (performAll q m) a) x.data x.lanes else readWord (performAll q m) b) ∧
  (∀ m q a w o, Coherent m (.post a w o :: q) →
    Coherent (writeWord m a w) q ∧ performAll q (writeWord m a w) = performAll (.post a w o :: q) m) ∧
  (∀ m q a w, Coherent m q → a % 4 = 0 →
    Coherent m (q ++ [.post a w 0]) ∧
      ∀ b, b % 4 = 0 →
        readWord (performAll (q ++ [.post a w 0]) m) b = if b = a then w else readWord (performAll q m) b)

/-- RESET_ASSERTED: the entry on the port completes its access, the held transactions are forwarded in their order, every other
entry is lost, and the lines go low. RESET_RELEASED: the straps are latched, every block takes its start values, and the
first load begins in LOADING with its four header FETCHes (parts of R139, R144, R145, R146, R2, R20, R36, R98, R111, R115,
R118, R120, R133, R134, R138 and R143). The model's choices in it: that the command says whether an entry is on the port and
that it completes before the held transactions (entry 6), that each block's lost state is held as its start value while
RESET is low (entry 19), that the read data returned so far is kept (entry 22), and the start values that no rule states
(entry 27). -/
def Obligations.ResetPin : Prop :=
  (∀ (s : State), s.resetLow = false →
      let forwarded := fun m : List Host.Cell =>
        s.path.held.foldl (fun (x : List Host.Cell × List Reply) t =>
          match t with
          | .write w => ((w.words.mapIdx fun i y => (burstAddr w.addr i, y)).foldl forwardWord x.1, x.2)
          | .read r =>
            (x.1, x.2 ++ [{ addr := r.addr, data := (List.range r.len).map fun i => readWord x.1 (burstAddr r.addr i) }]))
          (m, s.path.reads)
      let lost := fun m : List Host.Cell => State.blank (forwarded m).1 (forwarded m).2 s.pending
      exec (.resetAsserted false) s = .next (lost s.mem) ∧
      (∀ a w o q, s.path.queue = .post a w o :: q → exec (.resetAsserted true) s = .next (lost (writeWord s.mem a w))) ∧
      (∀ a d q, s.path.queue = .fetch a d :: q → exec (.resetAsserted true) s = .next (lost s.mem))) ∧
  (∀ m r p, (State.blank m r p).resetLow = true ∧ (State.blank m r p).stopLine = false ∧
      (State.blank m r p).markLine = false ∧ (State.blank m r p).attnLine = false ∧
      (State.blank m r p).path.queue = [] ∧ (State.blank m r p).path.held = [] ∧ (State.blank m r p).path.turn = 0 ∧
      (State.blank m r p).path.overlay = true ∧ (State.blank m r p).mem = m ∧ (State.blank m r p).path.reads = r ∧
      (State.blank m r p).pending = p) ∧
  (∀ (s : State) (a1 a0 : Bool), s.resetLow = true →
      let base := (if a1 then 0x800000 else 0) + (if a0 then 0x400000 else 0)
      ∃ t, exec (.resetReleased a1 a0) s = .next t ∧ t.base = base ∧
        t =
          { mem := s.mem, resetLow := false, anchor := t.anchor
            path :=
              { overlay := true, turn := 0, held := [], reads := s.path.reads
                queue := [.fetch (base + 0x400) .planLoader, .fetch (base + 0x404) .planLoader,
                  .fetch (base + 0x408) .planLoader, .fetch (base + 0x40C) .planLoader] }
            loader := { run := .loading, plan := none, fault := .none, retry := none, phase := .header, buf := [], items := [] }
            tracker :=
              { state := .noMould, active := none, last := none, openCycle := 0, lateStart := false,
                lastAbandoned := none, deferredOpen := false, limitTimer := none, unknownNote := none }
            closing := { stage := .idle, items := [] }
            asm := List.replicate 4
              { state := .hunt, expected := 0, collected := [], lastSeq := none, slot0 := none, slot1 := none,
                silenceTimer := none, silenceLatch := false, overrun := 0, broken := 0, gap := 0, overrunRaised := false,
                formatRaised := false }
            eval :=
              { busy := none, held := none, dump := [], frames := 0
                accums := List.replicate 64
                  { n := 0, s1 := 0, s2 := 0, clips := 0, long := false, qualified := 0, hits := 0, peak := 0, offset := 0
                    det := { state := .quiet, first := 0, lastOver := 0, quiet := 0, lockout := 0, peak := 0 } } }
            table := { contexts := [], buf := [], items := [] }
            out := { stopLatch := false, stopHigh := none, marks := [], pulse := none }
            report :=
              { published := List.replicate 61 0, building := List.replicate 61 0, producer := 0, consumer := 0, overflow := 0,
                seq := 0, ring := none, items := [] }
            mail :=
              { state := .idle, fn := 0, args := [], expected := 2, disturbed := false, serial := 0, work := none, items := [] }
            pending := s.pending })

/-! ## The press cycle (chapter 1) and the mark queue (chapter 7) -/

/-- Which state words the tracker accepts and how it reads them; a word that is not accepted (a lane missing, a phase of
5 to 15, or a check field that is not 0) is forwarded and changes nothing of the tracker or of any other block (parts of
R1, the layout of 11.3). -/
def Obligations.StateWordAccepted : Prop :=
  (∀ (d : Word) (w : StateWord), readStateWord d = some w ↔
      d.toNat / 2 ^ 24 = 0 ∧ w.cycle = d.toNat % 2 ^ 16 ∧ w.mould = d.toNat / 2 ^ 16 % 16 ∧
        ((d.toNat / 2 ^ 20 % 16 = 0 ∧ w.phase = .idle) ∨ (d.toNat / 2 ^ 20 % 16 = 1 ∧ w.phase = .fill) ∨
          (d.toNat / 2 ^ 20 % 16 = 2 ∧ w.phase = .vibrate) ∨ (d.toNat / 2 ^ 20 % 16 = 3 ∧ w.phase = .demould) ∨
          (d.toNat / 2 ^ 20 % 16 = 4 ∧ w.phase = .stopped))) ∧
  (∀ (s : State) (pl : Plan) (a : Addr) (d : Word) (l : Lanes), s.takes → a.toNat % 4 = 0 → s.stateWordAt pl a.toNat →
      (l ≠ 15 ∨ readStateWord d = none) →
        exec (.pressStateWord (oneWord a d l)) s = .next (mergeAndForward (oneWord a d l) s))

/-- An accepted word for the active mould in ARMED: VIBRATE opens a window, unless it repeats the cycle that was last
abandoned; a word with any other phase leaves the tracker ARMED and clears the last abandoned cycle (parts of R3, R6, R7,
R9, R30, R33, R36). The offset in use for a channel is the context's offset, and 0 for a channel outside the profile (part
of R38). -/
def Obligations.VibrateOpensWindow : Prop :=
  (∀ (s : State) (pl : Plan) (a : Addr) (d : Word) (w : StateWord) (p : Nat) (q : ProfilePlan) (c : Context),
    s.takes → a.toNat % 4 = 0 → s.stateWordAt pl a.toNat → readStateWord d = some w →
    s.tracker.state = .armed → s.tracker.active = some p → pl.profiles[p]? = some q → w.mould = q.mouldId →
    s.table.contexts[p]? = some c →
      let u := (mergeAndForward (oneWord a d 15) s).wordTaken pl w
      (w.phase = .vibrate → s.tracker.lastAbandoned ≠ some w.cycle →
        EndsIn (exec (.pressStateWord (oneWord a d 15)) s) (u.windowOpened pl c w.cycle false)) ∧
      (w.phase = .vibrate → s.tracker.lastAbandoned = some w.cycle → EndsIn (exec (.pressStateWord (oneWord a d 15)) s) u) ∧
      (w.phase ≠ .vibrate →
        EndsIn (exec (.pressStateWord (oneWord a d 15)) s) (u.setTracker { u.tracker with lastAbandoned := none }))) ∧
  (∀ (c : Context) (x : ChannelCtx), (c.channels.map fun y => y.number).Nodup → x ∈ c.channels →
    offsetInUse c x.number = x.offset) ∧
  (∀ (c : Context) (n : Nat), (∀ x ∈ c.channels, x.number ≠ n) → offsetInUse c n = 0)

/-- An accepted word for the active mould in OPEN. IDLE, FILL or DEMOULD closes the window, and so does VIBRATE with a new
cycle number, which also sets the deferred-open flag; VIBRATE with the open cycle has no effect. In CLOSING no mould id is
applied: VIBRATE sets the deferred-open flag, and any other phase clears the last abandoned cycle (parts of R3, R8, R9, R10,
R13, R30). -/
def Obligations.WordClosesWindow : Prop :=
  (∀ (s : State) (pl : Plan) (a : Addr) (d : Word) (w : StateWord) (p : Nat) (q : ProfilePlan),
    s.takes → a.toNat % 4 = 0 → s.stateWordAt pl a.toNat → readStateWord d = some w →
    s.tracker.state = .opened → s.tracker.active = some p → pl.profiles[p]? = some q → w.mould = q.mouldId →
      let u := (mergeAndForward (oneWord a d 15) s).wordTaken pl w
      (w.phase ≠ .stopped → (w.phase = .vibrate → w.cycle ≠ s.tracker.openCycle) →
        EndsIn (exec (.pressStateWord (oneWord a d 15)) s)
          (((u.setTracker
                { u.tracker with
                  state := .closing, limitTimer := none
                  deferredOpen := s.tracker.deferredOpen || w.phase == .vibrate
                  lastAbandoned := if w.phase = .vibrate then s.tracker.lastAbandoned else none }).setAsm
              (s.asm.map fun x => { x with silenceTimer := none })).setClosing { stage := .pending, items := [] })) ∧
      (w.phase = .vibrate → w.cycle = s.tracker.openCycle → EndsIn (exec (.pressStateWord (oneWord a d 15)) s) u)) ∧
  (∀ (s : State) (pl : Plan) (a : Addr) (d : Word) (w : StateWord),
    s.takes → a.toNat % 4 = 0 → s.stateWordAt pl a.toNat → readStateWord d = some w → s.tracker.state = .closing →
      let u := (mergeAndForward (oneWord a d 15) s).wordTaken pl w
      EndsIn (exec (.pressStateWord (oneWord a d 15)) s)
        (u.setTracker
          { u.tracker with
            deferredOpen := s.tracker.deferredOpen || w.phase == .vibrate
            lastAbandoned := if w.phase = .vibrate then s.tracker.lastAbandoned else none }))

/-- An accepted STOPPED word for the active mould abandons the open window with reason PRESS STOPPED, and an expiry of the
window-limit timer with reason OVERLONG: the timers stop, the sums are discarded, a frame being accumulated is dropped, the
abandoned cycle is kept, and the notice is raised; a waiting snapshot is then taken and a waiting commit made, with what it
places and its status placed as far as there is room (parts of R8 to R11, R15, R29 and R142). That the discarded sums are held
cleared is entry 16, the subject 0 of the notice entry 28, and that nothing waits for a status without room entry 29. -/
def Obligations.WindowAbandoned : Prop :=
  (∀ (s v : State) (pl : Plan) (a : Addr) (d : Word) (w : StateWord) (p : Nat) (q : ProfilePlan),
      s.takes → a.toNat % 4 = 0 → s.stateWordAt pl a.toNat → readStateWord d = some w → w.phase = .stopped →
      s.tracker.state = .opened → s.tracker.active = some p → pl.profiles[p]? = some q → w.mould = q.mouldId →
      AbandonReleases pl (((mergeAndForward (oneWord a d 15) s).wordTaken pl w).abandoned 2) v →
        EndsIn (exec (.pressStateWord (oneWord a d 15)) s) v) ∧
  (∀ (s v : State) (pl : Plan) (n : Nat), s.resetLow = false → s.runningPlan = some pl → s.tracker.state = .opened →
      s.tracker.limitTimer = some n → pl.windowLimit ≤ n → AbandonReleases pl (s.abandoned 3) v →
        EndsIn (exec .windowLimitExpiry s) v)

/-- A differing mould id. In NO MOULD and ARMED it is applied, and in OPEN it first abandons the window with reason MOULD
CHANGE, and waiting work is done, with its status placed as far as there is room, before it is applied. The phase then acts on the tracker as it stands: VIBRATE opens a
window when a profile is active and the cycle is not the one last abandoned; another phase clears the last abandoned cycle,
unless the word itself abandoned a window (parts of R3 to R6, R9, R11, R15, R51, R123 and R142; that the mould id does not wait
for a status without room is entry 29). -/
def Obligations.MouldApplied : Prop :=
  ∀ (s u v : State) (pl : Plan) (a : Addr) (d : Word) (w : StateWord),
    s.takes → a.toNat % 4 = 0 → s.stateWordAt pl a.toNat → readStateWord d = some w →
    (∀ p q, s.tracker.active = some p → pl.profiles[p]? = some q → q.mouldId ≠ w.mould) →
    (((s.tracker.state = .noMould ∨ s.tracker.state = .armed) ∧ u = (mergeAndForward (oneWord a d 15) s).wordTaken pl w) ∨
      (s.tracker.state = .opened ∧
        AbandonReleases pl (((mergeAndForward (oneWord a d 15) s).wordTaken pl w).abandoned 1) u)) →
    MouldApplies pl w.mould u v →
      (∀ p c, w.phase = .vibrate → v.tracker.active = some p → v.table.contexts[p]? = some c →
        v.tracker.lastAbandoned ≠ some w.cycle →
          EndsIn (exec (.pressStateWord (oneWord a d 15)) s) (v.windowOpened pl c w.cycle false)) ∧
      (w.phase = .vibrate → (v.tracker.active = none ∨ v.tracker.lastAbandoned = some w.cycle) →
        EndsIn (exec (.pressStateWord (oneWord a d 15)) s) v) ∧
      (w.phase ≠ .vibrate → s.tracker.state = .opened → EndsIn (exec (.pressStateWord (oneWord a d 15)) s) v) ∧
      (w.phase ≠ .vibrate → s.tracker.state ≠ .opened →
        EndsIn (exec (.pressStateWord (oneWord a d 15)) s) (v.setTracker { v.tracker with lastAbandoned := none }))

/-- The DEMOULD-entry event for cycle `c` removes from the front of the mark queue exactly the leading entries that are
reached, and fires the pulse with the plan's width if it removed one (R117; the fire is part of R118). An accepted word
raises the event in every tracker state and with any mould id when its phase is DEMOULD and the previous accepted phase was
not, and a repeated DEMOULD word, like a word of any other phase, touches neither the mark queue nor the pulse nor the stop
latch, in every consistent state, so in every tracker state (part of R12). -/
def Obligations.DemouldAdvancesMarks : Prop :=
  (∀ (s : State) (pl : Plan) (c : Nat) (gone rest : List Nat),
    s.out.marks = gone ++ rest → (∀ t ∈ gone, ((c : Int) - t) % 65536 < 32768) →
    (∀ t r, rest = t :: r → ¬ ((c : Int) - t) % 65536 < 32768) →
      advanceMarks pl c s =
        if gone = [] then s
        else s.setOut { s.out with marks := rest, pulse := some { count := 0, width := (pl.pulseW + 1) * 2 ^ pl.pulseP } }) ∧
  (∀ (s : State) (pl : Plan) (a : Addr) (d : Word) (w : StateWord), s.Consistent →
    s.takes → a.toNat % 4 = 0 → s.stateWordAt pl a.toNat → readStateWord d = some w →
      ∃ x, EndsIn (exec (.pressStateWord (oneWord a d 15)) s) x ∧
        (w.phase = .demould → (∀ v, s.tracker.last = some v → v.phase ≠ .demould) →
          x.out = (advanceMarks pl w.cycle s).out) ∧
        ((w.phase ≠ .demould ∨ ∃ v, s.tracker.last = some v ∧ v.phase = .demould) → x.out = s.out))

/-! ## Capture windows (chapter 2) -/

/-- What a write of a ring word does to its assembler. In HUNT, a full-lane write of a valid header at a frame-start address
starts a frame there, and every other write changes nothing else (R21). In ASSEMBLE, a full-lane write at the expected
address is the next body word, or, between two frames, the header of the next one, and is collected (parts of R22 and
R23). A write in ASSEMBLE with a lane missing, or a full-lane write off the expected address, drops the partial frame, which
counts as broken while OPEN; the assembler hunts, unless the write is a full-lane valid header at a frame start: that starts
a new frame, and the last sequence number is kept (R24, R25, part of R32). -/
def Obligations.FrameWordTaken : Prop :=
  (∀ (s : State) (pl : Plan) (i : Nat) (w : WindowPlan) (x : Assembler) (a : Addr) (d : Word) (l : Lanes),
      s.takes → a.toNat % 4 = 0 → s.ringWord pl i w a.toNat → w.base % 4 = 0 → s.asm[i]? = some x → x.state = .hunt →
        let m := mergeAndForward (oneWord a d l) s
        (l = 15 → w.startsFrame a.toNat d →
          exec (.captureRingWrite (oneWord a d l)) s
            = .next (m.setAsm (s.asm.set i
                { x with state := .assemble, collected := [d], expected := w.following a.toNat }))) ∧
        (¬ (l = 15 ∧ w.startsFrame a.toNat d) → exec (.captureRingWrite (oneWord a d l)) s = .next m)) ∧
  (∀ (s : State) (pl : Plan) (i : Nat) (w : WindowPlan) (x : Assembler) (a : Addr) (d : Word),
      s.takes → a.toNat % 4 = 0 → s.ringWord pl i w a.toNat → w.base % 4 = 0 → s.asm[i]? = some x →
      x.state = .assemble → a.toNat = x.expected →
      ((x.collected ≠ [] ∧ x.collected.length + 1 < w.frameWords) ∨ (x.collected = [] ∧ w.startsFrame a.toNat d)) →
        exec (.captureRingWrite (oneWord a d 15)) s
          = .next ((mergeAndForward (oneWord a d 15) s).setAsm (s.asm.set i
              { x with collected := x.collected ++ [d], expected := w.following a.toNat }))) ∧
  (∀ (s : State) (pl : Plan) (i : Nat) (w : WindowPlan) (x : Assembler) (a : Addr) (d : Word) (l : Lanes),
    s.takes → a.toNat % 4 = 0 → s.ringWord pl i w a.toNat → w.base % 4 = 0 → s.asm[i]? = some x →
    x.state = .assemble → (l ≠ 15 ∨ a.toNat ≠ x.expected) →
      let m := mergeAndForward (oneWord a d l) s
      let broken := if s.tracker.state = .opened ∧ x.collected ≠ [] then min 255 (x.broken + 1) else x.broken
      (l = 15 → w.startsFrame a.toNat d →
        exec (.captureRingWrite (oneWord a d l)) s
          = .next (m.setAsm (s.asm.set i
              { x with collected := [d], expected := w.following a.toNat, broken := broken }))) ∧
      (¬ (l = 15 ∧ w.startsFrame a.toNat d) →
        exec (.captureRingWrite (oneWord a d l)) s
          = .next (m.setAsm (s.asm.set i
              { x with state := .hunt, collected := [], lastSeq := none, broken := broken }))))

/-- The three capture faults. A word that is no header where one is expected sends the assembler to HUNT; a frame that
completes with both slots FULL is discarded; while OPEN each grows its count, and the first since the open raises its
CAPTURE FAULT. A silence timer at the plan's limit sets the silence latch, stops and raises CAPTURE FAULT SILENT (parts of
R23, R27, R30, R32 and R33). The overrun clause is for a frame that follows its predecessor without a gap. -/
def Obligations.CaptureFaultsCounted : Prop :=
  (∀ (s : State) (pl : Plan) (i : Nat) (w : WindowPlan) (x : Assembler) (a : Addr) (d : Word),
      s.takes → a.toNat % 4 = 0 → s.ringWord pl i w a.toNat → s.asm[i]? = some x →
      x.state = .assemble → a.toNat = x.expected → x.collected = [] →
      ¬ (d.toNat / 2 ^ 24 = 0xA6 ∧ d.toNat / 2 ^ 8 % 256 = w.chans.length ∧ d.toNat % 256 = w.scans) →
        let m := mergeAndForward (oneWord a d 15) s
        let y := { x with state := .hunt, lastSeq := none, broken := min 255 (x.broken + 1), formatRaised := true }
        (s.tracker.state ≠ .opened →
          exec (.captureRingWrite (oneWord a d 15)) s
            = .next (m.setAsm (s.asm.set i { x with state := .hunt, lastSeq := none }))) ∧
        (s.tracker.state = .opened → x.formatRaised = true →
          exec (.captureRingWrite (oneWord a d 15)) s = .next (m.setAsm (s.asm.set i y))) ∧
        (s.tracker.state = .opened → x.formatRaised = false →
          EndsIn (exec (.captureRingWrite (oneWord a d 15)) s)
            (raiseNotice none (s.naming .captureFault i 3) (m.setAsm (s.asm.set i y))))) ∧
  (∀ (s : State) (pl : Plan) (i : Nat) (w : WindowPlan) (x : Assembler) (a : Addr) (d h : Word) (r : List Word) (f g : Frame),
      s.takes → a.toNat % 4 = 0 → s.ringWord pl i w a.toNat → w.base % 4 = 0 → s.asm[i]? = some x →
      x.state = .assemble → a.toNat = x.expected → x.collected = h :: r → r.length + 2 = w.frameWords →
      x.slot0 = some f → x.slot1 = some g → x.lastSeq = some ((h.toNat / 2 ^ 16 + 255) % 256) → x.gap ≤ 255 →
        let y :=
          { x with
            collected := [], expected := w.following a.toNat, lastSeq := some (h.toNat / 2 ^ 16 % 256)
            silenceTimer := if x.silenceLatch then x.silenceTimer else x.silenceTimer.map fun _ => 0 }
        let z := { y with overrun := min 255 (x.overrun + 1), overrunRaised := true }
        let m := (mergeAndForward (oneWord a d 15) s).setEval { s.eval with frames := s.eval.frames + 1 }
        (s.tracker.state ≠ .opened →
          exec (.captureRingWrite (oneWord a d 15)) s = .next (m.setAsm (s.asm.set i y))) ∧
        (s.tracker.state = .opened → x.overrunRaised = true →
          exec (.captureRingWrite (oneWord a d 15)) s = .next (m.setAsm (s.asm.set i z))) ∧
        (s.tracker.state = .opened → x.overrunRaised = false →
          EndsIn (exec (.captureRingWrite (oneWord a d 15)) s)
            (raiseNotice none (s.naming .captureFault i 1) (m.setAsm (s.asm.set i z))))) ∧
  (∀ (s : State) (pl : Plan) (i : Fin 4) (x : Assembler) (n : Nat), s.resetLow = false → s.runningPlan = some pl →
      s.tracker.state = .opened → i.val < pl.windows.length → s.asm[i.val]? = some x → x.silenceTimer = some n →
      pl.silenceLimit ≤ n →
        EndsIn (exec (.silenceExpiry i) s)
          (raiseNotice none (s.naming .captureFault i.val 2)
            (s.setAsm (s.asm.set i.val { x with silenceTimer := none, silenceLatch := true }))))

/-- The last word of a frame completes it: the sequence check adds the gap while OPEN, the frame is copied into an EMPTY
staging slot, slot 0 first when both are (entry 15), with its completion order (entry 22), the silence timer restarts while the latch is clear, and the assembler expects
the next frame (R26, parts of R22, R27, R30 and R32). -/
def Obligations.FrameCompletes : Prop :=
  ∀ (s : State) (pl : Plan) (i : Nat) (w : WindowPlan) (x : Assembler) (a : Addr) (d h : Word) (r : List Word),
    s.takes → a.toNat % 4 = 0 → s.ringWord pl i w a.toNat → w.base % 4 = 0 → s.asm[i]? = some x →
    x.state = .assemble → a.toNat = x.expected → x.collected = h :: r → r.length + 2 = w.frameWords →
    (x.slot0 = none ∨ x.slot1 = none) →
      let f : Frame := { words := h :: r ++ [d], order := s.eval.frames }
      let q := h.toNat / 2 ^ 16 % 256
      exec (.captureRingWrite (oneWord a d 15)) s
        = .next (((mergeAndForward (oneWord a d 15) s).setAsm (s.asm.set i
            { x with
              collected := [], expected := w.following a.toNat, lastSeq := some q
              gap :=
                match x.lastSeq with
                | none => x.gap
                | some p =>
                  if s.tracker.state = .opened then min 255 (x.gap + (((q : Int) - p - 1) % 256).toNat) else x.gap
              silenceTimer := if x.silenceLatch then x.silenceTimer else x.silenceTimer.map fun _ => 0
              slot0 := if x.slot0 = none then some f else x.slot0
              slot1 := if x.slot0 = none then x.slot1 else some f })).setEval
          { s.eval with frames := s.eval.frames + 1 })

/-- The evaluator, when it is ready, takes the staged frame that completed earliest among all windows (R28; the order kept
with each frame is entry 22). In NO MOULD, ARMED and CLOSING it discards the samples and the slot becomes EMPTY at once. A
frame taken while OPEN is accumulated whole: the set of each defined channel takes the frame's samples of that channel in
their order, no other set changes, and the slot stays FULL until FRAME_FINISHED makes it EMPTY (parts of R29 and R37; that all
samples enter the sums in FRAME_TAKEN and the slot empties in FRAME_FINISHED is entry 17). -/
def Obligations.FrameTaken : Prop :=
  (∀ (s : State) (i : Nat) (k : Bool) (f : Frame), s.resetLow = false → s.eval.busy = none →
    s.tracker.state ≠ .opened → s.staged i k f →
    (∀ j l g, s.staged j l g → (j, l) ≠ (i, k) → f.order < g.order) →
      exec .frameTaken s = .next (s.setAsm (s.withoutStaged i k))) ∧
  (∀ (s : State) (pl : Plan) (i : Nat) (k : Bool) (f : Frame) (w : WindowPlan), s.resetLow = false → s.eval.busy = none →
    s.runningPlan = some pl → s.tracker.state = .opened → s.staged i k f → pl.windows[i]? = some w →
    (∀ j l g, s.staged j l g → (j, l) ≠ (i, k) → f.order < g.order) →
      ∃ xs, exec .frameTaken s = .next (s.setEval { s.eval with accums := xs, busy := some (i, k) }) ∧
        xs.length = s.eval.accums.length ∧
        ∀ n a, s.eval.accums[n]? = some a →
          (∀ c, pl.channel n = some c →
            xs[n]? = some ((((frameSamples w f).filter fun x => x.1 == n).map Prod.snd).foldl
              (fun b x => accumulate c x b) a)) ∧
          (pl.channel n = none → xs[n]? = some a)) ∧
  (∀ (s : State) (i : Nat) (k : Bool), s.resetLow = false → s.eval.busy = some (i, k) →
    exec .frameFinished s = .next ((s.setAsm (s.withoutStaged i k)).setEval { s.eval with busy := none }))

/-- The layout of a frame: scan after scan, and within a scan channel after channel in list order; a PAIR16 sample is a
signed half of its word, the halves in the plan's order, and a SOLO24 sample is the signed 24-bit value divided by 256
toward minus infinity (R17, R18, parts of R16 and R29). -/
def Obligations.FrameLayout : Prop :=
  ∀ (w : WindowPlan) (f : Frame), f.words.length = w.frameWords →
    (frameSamples w f).length = w.scans * w.chans.length ∧
      ∀ r j c, r < w.scans → w.chans[j]? = some c →
        (w.packing = .pair16 →
          ∃ d, f.words[1 + r * ((w.chans.length + 1) / 2) + j / 2]? = some d ∧
            (frameSamples w f)[r * w.chans.length + j]? = some (c,
              if (j % 2 = 0) = (w.half = .firstLow) then (d.extractLsb' 0 16).toInt else (d.extractLsb' 16 16).toInt)) ∧
        (w.packing = .solo24 →
          ∃ d, f.words[1 + r * w.chans.length + j]? = some d ∧
            (frameSamples w f)[r * w.chans.length + j]? = some (c, (d.extractLsb' 0 24).toInt / 256))

/-! ## The channel evaluator (chapter 3) -/

/-- One sample is counted and summed, or sets only the long flag once N is 65535, and an AE or BOTH channel's hit detector is
given it with its index and deviation (part of R37): a QUIET detector begins a hit or not (R39); in a hit, the sample
extends it or counts as quiet until HDT ends it (R40), when the hit is counted (part of R41). A detector in LOCKOUT with `n`
samples to go consumes exactly the next `n` samples, whatever they are: it is in LOCKOUT before the last of them and QUIET
after it, and nothing else of the set changes (R42). -/
def Obligations.DetectorRules : Prop :=
  (∀ (c : ChannelPlan) (x : Int) (a : Accum),
      (a.n = 65535 → accumulate c x a = { a with long := true }) ∧
      (a.n ≠ 65535 →
        let b := { a with
          n := a.n + 1, s1 := a.s1 + x, s2 := a.s2 + (x * x).toNat
          clips := if x = -32768 ∨ x = 32767 then min 65535 (a.clips + 1) else a.clips }
        (c.kind = .vib → accumulate c x a = b) ∧
        (c.kind ≠ .vib → accumulate c x a = detect c a.n (x - a.offset).natAbs b))) ∧
  (∀ (c : ChannelPlan) (i dev : Nat) (a : Accum),
      (a.det.state = .quiet → c.th ≤ dev →
        detect c i dev a = { a with det := { a.det with state := .inHit, first := i, lastOver := i, peak := dev, quiet := 0 } }) ∧
      (a.det.state = .quiet → dev < c.th → detect c i dev a = a) ∧
      (a.det.state = .inHit → c.th ≤ dev →
        detect c i dev a = { a with det := { a.det with peak := max a.det.peak dev, lastOver := i, quiet := 0 } }) ∧
      (a.det.state = .inHit → dev < c.th → a.det.quiet + 1 < c.hdt →
        detect c i dev a = { a with det := { a.det with quiet := a.det.quiet + 1 } }) ∧
      (a.det.state = .inHit → dev < c.th → c.hdt ≤ a.det.quiet + 1 →
        let b := detect c i dev a
        b = { a with
          hits := min 65535 (a.hits + 1)
          qualified := if c.dmin ≤ a.det.lastOver - a.det.first + 1 then min 255 (a.qualified + 1) else a.qualified
          peak := if c.dmin ≤ a.det.lastOver - a.det.first + 1 then max a.peak a.det.peak else a.peak
          det := { a.det with
            quiet := a.det.quiet + 1, state := if c.hlt = 0 then .quiet else .lockout
            lockout := if c.hlt = 0 then a.det.lockout else c.hlt } })) ∧
  (∀ (c : ChannelPlan) (a : Accum) (samples : List (Nat × Nat)), a.det.state = .lockout →
    (samples.length < a.det.lockout →
      samples.foldl (fun b x => detect c x.1 x.2 b) a
        = { a with det := { a.det with lockout := a.det.lockout - samples.length } }) ∧
    (samples.length = a.det.lockout → 1 ≤ a.det.lockout →
      samples.foldl (fun b x => detect c x.1 x.2 b) a
        = { a with det := { a.det with lockout := 0, state := .quiet } }))

/-- The variance of a channel's samples is computed exactly: the numerator is never negative and is below 2^63, the variance
is at most 2^30, and it is 0 without samples (R46). The RMS is the largest integer whose square is within the variance,
at most 32767 for any samples (R47). -/
def Obligations.VarianceAndRms : Prop :=
  (∀ xs : List Int, (∀ x ∈ xs, -32768 ≤ x ∧ x ≤ 32767) → xs.length ≤ 65535 →
      let n : Int := xs.length
      let s1 := xs.sum
      let s2 := (xs.map fun x => x * x).sum
      0 ≤ n * s2 - s1 * s1 ∧ n * s2 - s1 * s1 < 2 ^ 63 ∧
        (xs ≠ [] → (variance xs.length s1 s2.toNat : Int) = (n * s2 - s1 * s1) / (n * n)) ∧
        variance xs.length s1 s2.toNat ≤ 2 ^ 30 ∧ (xs = [] → variance xs.length s1 s2.toNat = 0) ∧
        (xs = List.replicate 15 0 ++ [1] → variance xs.length s1 s2.toNat = 0)) ∧
  ((∀ v : Nat, v < 2 ^ 32 → isqrt v * isqrt v ≤ v ∧ v < (isqrt v + 1) * (isqrt v + 1)) ∧
    (∀ xs : List Int, (∀ x ∈ xs, -32768 ≤ x ∧ x ≤ 32767) → xs.length ≤ 65535 →
      variance xs.length xs.sum (xs.map fun x => x * x).sum.toNat ≤ 1073709056 ∧
        isqrt (variance xs.length xs.sum (xs.map fun x => x * x).sum.toNat) ≤ 32767) ∧
    (∀ (s : State) (pl : Plan) (c : ChannelPlan),
      (closeChannel s pl c).rms
          = isqrt (variance (s.eval.accum c.number).n (s.eval.accum c.number).s1 (s.eval.accum c.number).s2) ∧
        ((s.eval.accum c.number).n = 0 → (closeChannel s pl c).rms = 0)))

/-- The outcome of a channel is the first of the five tests that applies (R45). A hit in progress ends at the close and leaves
no lockout (R43). A GOOD channel of the active profile takes the truncated mean as its offset and is responsive; any other
keeps its offset and is not; a flag that changes raises CHANNEL LOST with the outcome, or CHANNEL BACK (R48, parts of R49). The
held set has the figures of each defined channel, and the accumulator sets end with its final values (parts of R36 and
R51). -/
def Obligations.ChannelClosed : Prop :=
  (∀ (s : State) (pl : Plan) (c : ChannelPlan),
      let a := s.eval.accum c.number
      let o := (closeChannel s pl c).outcome
      let latch := (s.assembler (pl.windowOf c.number)).silenceLatch
      (latch = true → o = .silent) ∧
      (latch = false → a.n < c.nmin → o = .few) ∧
      (latch = false → c.nmin ≤ a.n → c.clipLimit < a.clips → o = .clipped) ∧
      (latch = false → c.nmin ≤ a.n → a.clips ≤ c.clipLimit → variance a.n a.s1 a.s2 = 0 → o = .flat) ∧
      (latch = false → c.nmin ≤ a.n → a.clips ≤ c.clipLimit → variance a.n a.s1 a.s2 ≠ 0 → o = .good) ∧
      (1 ≤ c.nmin → a.n = 0 → o = .few ∨ o = .silent) ∧
      (16 ≤ c.nmin → o = .flat → 16 ≤ a.n) ∧
      (latch = false → c.nmin ≤ a.n → c.clipLimit = 0 → 1 ≤ a.clips → o = .clipped) ∧
      (c.clipLimit = 65535 → a.clips ≤ 65535 → o ≠ .clipped) ∧
      (a.det.state ≠ .inHit → (closeChannel s pl c).acc = a) ∧
      (a.det.state = .inHit →
        let long := c.dmin ≤ a.det.lastOver - a.det.first + 1
        (closeChannel s pl c).acc = { a with
          hits := min 65535 (a.hits + 1), qualified := if long then min 255 (a.qualified + 1) else a.qualified
          peak := if long then max a.peak a.det.peak else a.peak, det := { a.det with state := .quiet } })) ∧
  (∀ (s : State) (pl : Plan) (x : ChannelCtx) (c : ChannelPlan), pl.channel x.number = some c → x.number < 64 →
      let rs := closeChannels s pl
      let a := s.eval.accum x.number
      let o := (closeChannel s pl c).outcome
      outcomeAt rs x.number = some o ∧
      (o = .good →
        closeChannelCtx rs x = { x with offset := Int.tdiv a.s1 a.n, responsive := true } ∧
          channelNotice s rs x = if x.responsive then none else some (s.naming .channelBack x.number 0)) ∧
      (o ≠ .good →
        closeChannelCtx rs x = { x with responsive := false } ∧
          channelNotice s rs x = if x.responsive then some (s.naming .channelLost x.number o.code) else none)) ∧
  (∀ (s : State) (pl : Plan) (n : Nat), n < 64 → s.eval.accums.length = 64 →
      let rs := closeChannels s pl
      (∀ c, pl.channel n = some c →
        let r := closeChannel s pl c
        (heldSet rs)[n]? = some
          { n := r.acc.n, rms := r.rms, qualified := r.acc.qualified, hits := r.acc.hits, peak := r.acc.peak,
            clips := r.acc.clips, outcome := some r.outcome, long := r.acc.long } ∧
        (finalAccums rs s.eval.accums)[n]? = some r.acc) ∧
      (pl.channel n = none →
        (heldSet rs)[n]? = some
          { n := 0, rms := 0, qualified := 0, hits := 0, peak := 0, clips := 0, outcome := none, long := false } ∧
        (finalAccums rs s.eval.accums)[n]? = s.eval.accums[n]?))

/-! ## The cavity close (chapters 4 and 5) -/

/-- The considered slots of a cavity: its bound slot alone while that slot's channel is GOOD, otherwise every installed,
enabled slot with a GOOD channel (R58, R59, part of R60); and the ratio and the two terms of a considered slot (R63, R76,
R77). -/
def Obligations.SlotTerms : Prop :=
  (∀ (rs : List ChanResult) (p : CavityPlan) (c : CavityCtx),
      (∀ b, c.bound = some b → isGood rs (p.chan b) = true →
        considered rs p c = [b] ∧ lostBinding rs p c = none ∧ boundAfterLoss rs p c = some b) ∧
      (∀ b, c.bound = some b → isGood rs (p.chan b) = false →
        lostBinding rs p c = some b ∧ boundAfterLoss rs p c = none) ∧
      (c.bound = none → lostBinding rs p c = none ∧ boundAfterLoss rs p c = none) ∧
      ((c.bound = none ∨ ∃ b, c.bound = some b ∧ isGood rs (p.chan b) = false) →
        ∀ k, k ∈ considered rs p c ↔
          p.has k = true ∧ outcomeAt rs (p.chan k) = some .good ∧ c.enables.getLsbD k.val = true) ∧
      (considered rs p c).Pairwise (fun j k => j < k)) ∧
  (∀ (rs : List ChanResult) (q : ProfilePlan) (m : Nat) (p : CavityPlan) (c : CavityCtx) (k : Fin 4) (r : ChanResult),
      resultOf rs (p.chan k) = some r →
        let x := slotWork rs q m p c k
        let ratio := min 65535 (r.rms * 4096 / max (c.slot k).b 16)
        x.slot = k ∧ x.ratio = slotRatio rs p c k ∧
        (r.kind ≠ .ae → 1 ≤ (c.slot k).n →
          x.ratio = some ratio ∧ (x.v : Int) = min 255 (max 0 ((ratio : Int) - m - q.xd))) ∧
        ((r.kind = .ae ∨ (c.slot k).n = 0) → x.ratio = none ∧ x.v = 0) ∧
        (r.kind = .vib → x.a = 0) ∧
        (r.kind ≠ .vib → x.a = min 255 (r.acc.qualified * q.hitWeight)))

/-- The row median: 256 below three members, the middle value of an odd count, the floor of the mean of the two middle
values of an even count, for the values sorted ascending; it depends on no order of the members (R66). The q of a cavity is the
largest ratio among its considered slots, and an EXCLUDED cavity has none (R64, part of R88). The values of a group are those
q that its cavities have (R65). -/
def Obligations.RowMedian : Prop :=
  (∀ v : List Nat,
    let t := v.mergeSort (fun a b => decide (a ≤ b))
    (v.length < 3 → medianOf v = 256) ∧
    (3 ≤ v.length → v.length % 2 = 1 → t[v.length / 2]? = some (medianOf v)) ∧
    (4 ≤ v.length → v.length % 2 = 0 →
      ∃ a b, t[v.length / 2 - 1]? = some a ∧ t[v.length / 2]? = some b ∧ medianOf v = (a + b) / 2) ∧
    (∀ u : List Nat, u.Perm v → medianOf u = medianOf v) ∧
    ((∀ x ∈ v, x ≤ 65535) → medianOf v ≤ 65535)) ∧
  (∀ (rs : List ChanResult) (p : CavityPlan) (c : CavityCtx),
    (c.state = .excluded → cavityQ rs p c = none) ∧
    (c.state ≠ .excluded → ∀ x, cavityQ rs p c = some x ↔
      (∃ k ∈ considered rs p c, slotRatio rs p c k = some x) ∧
        ∀ k ∈ considered rs p c, ∀ y, slotRatio rs p c k = some y → y ≤ x)) ∧
  (∀ (rs : List ChanResult) (cs : List (CavityPlan × CavityCtx)) (g : Nat) (v : List Nat),
    v.Perm (cs.filterMap fun x => if x.1.group = g then cavityQ rs x.1 x.2 else none) → groupMedian rs cs g = medianOf v)

/-- The dominant slot is the considered slot with the largest unclamped sum of its two terms, the lowest-numbered one
among equal sums; without a considered slot there is none (R68). -/
def Obligations.DominantSlot : Prop :=
  dominant [] = none ∧
  (∀ (works : List SlotWork) (x : SlotWork), works.Pairwise (fun y z => y.slot < z.slot) →
    (dominant works = some x ↔
      x ∈ works ∧ (∀ y ∈ works, y.v + y.a ≤ x.v + x.a) ∧ ∀ y ∈ works, y.v + y.a = x.v + x.a → x.slot ≤ y.slot)) ∧
  (∀ (rs : List ChanResult) (q : ProfilePlan) (m : Nat) (p : CavityPlan) (c : CavityCtx),
    ((considered rs p c).map (slotWork rs q m p c)).Pairwise (fun y z => y.slot < z.slot))

/-- A cavity without a considered slot is blind: everything of it is held but a lost binding (R79). One that is seen takes its
dominant slot as reported slot, loses the blind flag, and has the dominant sum, up to 255, as its evidence (R69, R78); the
score follows R81, and a LEARNING cavity keeps 0. It then makes its learning step or its state step, and only if it is then
LEARNING or SOUND does each considered slot on a VIB or BOTH channel take its baseline update; every other slot keeps its
baseline (R75, parts of R90 and R91). -/
def Obligations.CavityJudged : Prop :=
  (∀ (rs : List ChanResult) (q : ProfilePlan) (median : Nat → Nat) (i : Nat) (p : CavityPlan) (c : CavityCtx),
      considered rs p c = [] →
        let o := closeCavity rs q median i p c
        o.after = { c with blind := true, bound := none } ∧ o.lost = c.bound ∧ o.evidence = 0 ∧ o.v = 0 ∧ o.a = 0 ∧
          o.q = none ∧ o.slots = [] ∧ o.number = i ∧ o.plan = p ∧ o.before = c ∧ o.median = median p.group) ∧
  (∀ (rs : List ChanResult) (q : ProfilePlan) (median : Nat → Nat) (i : Nat) (p : CavityPlan) (c : CavityCtx) (x : SlotWork),
      c.state ≠ .excluded → dominant ((considered rs p c).map (slotWork rs q (median p.group) p c)) = some x →
        let o := closeCavity rs q median i p c
        let seen := { c with bound := boundAfterLoss rs p c, blind := false, reported := some x.slot }
        let moved :=
          if c.state = .learning then learnStep q seen
          else stateStep q x.slot { seen with score := newScore q.d c.score (min 255 (x.v + x.a)) }
        (o.after.reported = some x.slot ∧ o.after.blind = false ∧ o.evidence = min 255 (x.v + x.a) ∧ o.v = x.v ∧ o.a = x.a ∧
          o.after.enables = c.enables ∧ o.lost = lostBinding rs p c ∧ o.q = cavityQ rs p c ∧ o.median = median p.group ∧
          o.slots = (considered rs p c).map (slotWork rs q (median p.group) p c) ∧ o.number = i ∧ o.plan = p ∧ o.before = c) ∧
        (c.state = .learning → c.score = 0 → o.after.score = 0) ∧
        (c.state ≠ .learning → o.after.score = min 65535 (c.score - c.score / 2 ^ q.d + min 255 (x.v + x.a))) ∧
        o.after = { moved with slots := o.after.slots } ∧ o.after.slots.length = c.slots.length ∧
        (c.slots.length = 4 →
          (∀ k r, (moved.state = .learning ∨ moved.state = .sound) → k ∈ considered rs p c → resultOf rs (p.chan k) = some r →
            r.kind ≠ .ae → o.after.slot k = updateBaseline q.w r.rms (c.slot k)) ∧
          (∀ k, ((moved.state ≠ .learning ∧ moved.state ≠ .sound) ∨ k ∉ considered rs p c ∨
              ∀ r, resultOf rs (p.chan k) = some r → r.kind = .ae) → o.after.slot k = c.slot k)))

/-- Under steady evidence `e` the score settles in the band from 2^d e to 2^d e + 2^d - 1: every score of the band maps to
itself, a score below it rises towards it, a score above it falls towards it, and from any score the band is reached
(R81). -/
def Obligations.ScoreBand : Prop :=
  ∀ d e score : Nat, 1 ≤ d → d ≤ 8 → e ≤ 255 → score ≤ 65535 →
    let next := newScore d score e
    next = min 65535 (score - score / 2 ^ d + e) ∧
    (2 ^ d * e ≤ score → score ≤ 2 ^ d * e + 2 ^ d - 1 → next = score) ∧
    (score < 2 ^ d * e → score < next ∧ next ≤ 2 ^ d * e) ∧
    (2 ^ d * e + 2 ^ d - 1 < score → next < score ∧ 2 ^ d * e ≤ next) ∧
    ∃ k, 2 ^ d * e ≤ (fun x => newScore d x e)^[k] score ∧ (fun x => newScore d x e)^[k] score ≤ 2 ^ d * e + 2 ^ d - 1

/-- The state step of a cavity whose new score is in place, and the learning step (R82 to R86, part of R87). -/
def Obligations.StateSteps : Prop :=
  ∀ (q : ProfilePlan) (k : Fin 4) (c : CavityCtx),
    q.h < q.t1 → q.t1 < q.t2 → q.t2 < q.t3 → 1 ≤ q.confirmations →
      let entry :=
        { c with
          bound := some k, confirm := if q.t3 ≤ c.score then 1 else 0
          state := if q.t3 ≤ c.score ∧ q.confirmations = 1 then .cracked else .suspect }
      (c.state = .sound → q.t2 ≤ c.score → stateStep q k c = entry) ∧
      (c.state = .sound → q.t1 ≤ c.score → c.score < q.t2 → stateStep q k c = { c with state := .watch, confirm := 0 }) ∧
      (c.state = .sound → c.score < q.t1 → stateStep q k c = c) ∧
      (c.state = .watch → q.t2 ≤ c.score → stateStep q k c = entry) ∧
      (c.state = .watch → q.t1 - q.h ≤ c.score → c.score < q.t2 → stateStep q k c = c) ∧
      (c.state = .watch → c.score < q.t1 - q.h → stateStep q k c = { c with state := .sound }) ∧
      (c.state = .suspect → q.t3 ≤ c.score →
        stateStep q k c = { c with
          confirm := min 7 (c.confirm + 1)
          state := if q.confirmations ≤ min 7 (c.confirm + 1) then .cracked else .suspect }) ∧
      (c.state = .suspect → q.t2 - q.h ≤ c.score → c.score < q.t3 → stateStep q k c = { c with confirm := 0 }) ∧
      (c.state = .suspect → q.t1 - q.h ≤ c.score → c.score < q.t2 - q.h →
        stateStep q k c = { c with state := .watch, confirm := 0, bound := none }) ∧
      (c.state = .suspect → c.score < q.t1 - q.h →
        stateStep q k c = { c with state := .sound, confirm := 0, bound := none }) ∧
      (c.state = .cracked → stateStep q k c = c) ∧
      (2 ^ q.w ≤ min 256 (c.learned + 1) →
        learnStep q c
          = { c with learned := min 256 (c.learned + 1), state := .sound, score := 0, confirm := 0, bound := none }) ∧
      (min 256 (c.learned + 1) < 2 ^ q.w →
        learnStep q c = { c with learned := min 256 (c.learned + 1), confirm := 0, bound := none })

/-- The baseline update: n grows to at most 2^w, B moves by the floor of the difference divided by the new n, and the
result lies between the old B and 16 times the RMS; the first update sets B to 16 times the RMS (R90). -/
def Obligations.BaselineUpdate : Prop :=
  ∀ (w rms : Nat) (x : SlotCtx), 2 ≤ w → w ≤ 8 → rms ≤ 32767 → x.b ≤ 524288 →
    let y := updateBaseline w rms x
    y.n = min (x.n + 1) (2 ^ w) ∧ (y.b : Int) = x.b + ((16 * rms : Int) - x.b) / y.n ∧
      min x.b (16 * rms) ≤ y.b ∧ y.b ≤ max x.b (16 * rms) ∧ (x.n = 0 → y.n = 1 ∧ y.b = 16 * rms)

/-- A close leaves every cavity with legal items: a bound slot and a confirm count only in SUSPECT and CRACKED, an
installed slot, score 0 in LEARNING; a CRACKED cavity stays CRACKED, and an EXCLUDED cavity is passed over whole (R61,
R87, R88, parts of R97). -/
def Obligations.CloseKeepsLegal : Prop :=
  ∀ (rs : List ChanResult) (q : ProfilePlan) (c : Context), q.w ≤ 8 → c.cavities.length = q.cavities.length →
    (∀ x ∈ q.cavities.zip c.cavities, x.2.Legal x.1) →
      (closeCavities rs q c).length = c.cavities.length ∧
      ∀ o ∈ closeCavities rs q c,
        o.after.Legal o.plan ∧ (o.before.state = .cracked → o.after.state = .cracked) ∧
          (o.before.state = .excluded → o.after = o.before) ∧ (o.after.state = .excluded → o.before.state = .excluded) ∧
          (q.cavities[o.number]? = some o.plan ∧ c.cavities[o.number]? = some o.before)

/-! ## Close processing (1.10, chapter 8) -/

/-- CHANNEL_CLOSE carries out steps 1 to 4 of close processing: the results of every defined channel become the held set,
the active context takes its offsets, flags and cavities, the building bank is filled, the stop latch is set by an entry
into CRACKED in a profile with stop action, and step 4 has its entries to place in order: records, channel notices, and for
each cavity BINDING LOST, BLIND CHANGE and CAVITY STATE (parts of R13, R44, R49, R51, R57, R60, R80, R89, R92, R112, R116, R122
and R126). No request is handed over and not begun here (entry 9); that step 4 is computed as one list is entry 26. -/
def Obligations.CloseProcessed : Prop :=
  ∀ (s : State) (pl : Plan) (p : Nat) (q : ProfilePlan) (c : Context), s.resetLow = false →
    s.tracker.state = .closing → s.closing.stage = .pending → s.eval.busy = none →
    (∀ k, s.mail.work = some k → k.phase ≠ .handed) →
    s.runningPlan = some pl → s.tracker.active = some p → pl.profiles[p]? = some q → s.table.contexts[p]? = some c →
      let rs := closeChannels s pl
      let outs := closeCavities rs q c
      let c' : Context := { channels := c.channels.map (closeChannelCtx rs), cavities := outs.map fun o => o.after }
      let cracked := outs.any fun o => o.before.state != .cracked && o.after.state == .cracked
      let marking := outs.countP fun o =>
        (o.after.state == .cracked && q.markOnCrack) || (o.after.state == .suspect && q.markOnSuspect)
      let lost := fun o : CavOut => (o.lost.map fun k => s.naming .bindingLost o.number k.val).toList
      let blind := fun o : CavOut =>
        if o.before.blind = o.after.blind then [] else [s.naming .blindChange o.number (if o.after.blind then 1 else 0)]
      let changed := fun o : CavOut =>
        if o.before.state = o.after.state then []
        else [s.naming .cavityState o.number (o.before.state.code + 256 * o.after.state.code)]
      EndsIn (exec .channelClose s)
        (((((s.setEval { s.eval with accums := finalAccums rs s.eval.accums, held := some (heldSet rs) }).setTable
              { s.table with contexts := s.table.contexts.set p c' }).setReport
            { s.report with
              building := closeBank s p c' outs (groupMedian rs (q.cavities.zip c.cavities)) (someLong rs q) }).setOut
          { s.out with stopLatch := s.out.stopLatch || (q.stopAction && cracked) }).setClosing
          { stage := .placing
            items := recordItems s p q rs outs ++ (c.channels.filterMap (channelNotice s rs)).map .notice
              ++ (outs.flatMap fun o => lost o ++ blind o ++ changed o).map .notice
              ++ (if marking = 0 then [] else [.markPush marking ((s.tracker.openCycle + q.delay) % 65536)]) })

/-- How step 4 goes on as the report writer's entries are placed (R126, part of R116; the one FIFO of the report writer is
entry 12). While a record word or a notice of step 4 is still to be placed, step 4 waits and PUBLISH has no effect. When it
has been placed, the next record word or unmasked notice joins the report writer's entries behind whatever another block has
raised meanwhile; a masked notice is passed over. The mark push, with everything before it placed, adds its target, or, with 8
marks queued, drops it and raises MARK QUEUE FULL, which step 4 then waits for. -/
def Obligations.StepFourPlaced : Prop :=
  (∀ (s u : State) (g : Option Gate) (js : List ReportItem), s.resetLow = false → s.path.queue.length < 32 →
    ((∃ a w, s.report.items = .post a w g :: js ∧
        u = (s.setPath { s.path with queue := s.path.queue ++ [.post a w 0] }).setReport { s.report with items := js }) ∨
      (∃ r : Ring, s.report.items = .rest [] g :: js ∧ s.report.ring = some r ∧ 0 < r.size ∧ r.size ≤ 1024 ∧
        let next := (s.report.producer + 1) % r.size
        u = (s.setPath { s.path with
            queue := s.path.queue ++ [.post (s.base + 0x40) (BitVec.ofNat 32 next) 0] }).setReport
              { s.report with producer := next, items := js })) →
      let o := exec (.queueRoomPlacement .reportWriter) s
      let free := ∀ j ∈ js, j.gate ≠ some .closeStep
      let masked := fun k : NoticeKind => ∀ r, s.report.ring = some r → r.kindMask.getLsbD k.code = false
      let raised := fun (n : Notice) (v : State) => v.setReport { v.report with
        seq := (s.report.seq + 1) % 65536, items := js ++ [.notice n s.report.seq (some .closeStep)] }
      let left := fun (xs : List StepItem) (v : State) => v.setClosing { s.closing with items := xs }
      ((¬ free ∨ s.closing.items = []) → o = .next u) ∧
      (∀ a w xs, free → s.closing.items = .post a w :: xs →
        o = .next (left xs (u.setReport { u.report with items := js ++ [.post a w (some .closeStep)] }))) ∧
      (∀ n xs r, free → s.closing.items = .notice n :: xs → s.loader.run = .running → s.report.ring = some r →
        r.kindMask.getLsbD n.kind.code = true → o = .next (left xs (raised n u))) ∧
      (∀ n xs, free → s.closing.items = .notice n :: xs → masked n.kind →
        o = exec (.queueRoomPlacement .reportWriter) (left xs s)) ∧
      (∀ c t, free → s.closing.items = [.markPush c t] → s.out.marks.length < 8 →
        o = .next (left [] (u.setOut { s.out with marks := s.out.marks ++ [t] }))) ∧
      (∀ c t r, free → s.closing.items = [.markPush c t] → 8 ≤ s.out.marks.length → s.loader.run = .running →
        s.report.ring = some r → r.kindMask.getLsbD 12 = true →
          o = .next (left [] (raised (s.naming .markQueueFull c t) u))) ∧
      (∀ c t, free → s.closing.items = [.markPush c t] → 8 ≤ s.out.marks.length → masked .markQueueFull →
        o = .next (left [] u))) ∧
  (∀ s : State, (s.closing.items ≠ [] ∨ ∃ i ∈ s.report.items, i.gate = some .closeStep) → exec .publish s = .next s)

/-- PUBLISH: the banks change places, and with no work waiting step 6 follows: a differing mould id of the last word is
applied first, then the deferred open takes place when its flag is set, a profile is active and the last phase is VIBRATE, and
otherwise the tracker goes on as ARMED or NO MOULD. With work waiting, step 6 is left to its release (parts of R4, R5, R7,
R13, R14, R15 and R124; the split of the two steps is entry 10). -/
def Obligations.PublishSettles : Prop :=
  ∀ (s : State) (pl : Plan) (p : Nat) (q : ProfilePlan) (w : StateWord), s.resetLow = false →
    s.tracker.state = .closing → s.closing.stage = .placing → s.closing.items = [] →
    (∀ i ∈ s.report.items, i.gate ≠ some .closeStep) →
    s.runningPlan = some pl → s.tracker.active = some p → pl.profiles[p]? = some q → s.tracker.last = some w →
      let u := s.setReport { s.report with published := s.report.building, building := s.report.published }
      (∀ z, (∀ k, s.mail.work = some k → k.phase ≠ .waiting ∧ k.phase ≠ .checked) → StepSixGives pl w q.mouldId u z →
        EndsIn (exec .publish s) z) ∧
      (∀ k, s.mail.work = some k → (k.phase = .waiting ∨ k.phase = .checked) →
        exec .publish s = .next (u.setClosing { stage := .published, items := [] }))

/-- WAITING_WORK_RELEASED, after step 5 and before step 6: a cavity request acts on the context as the close left it, a
snapshot is taken AT PUBLISH, a checked image is committed with its activation bank; what it places, its status and REQUEST DONE
notice among it, is placed as far as there is room, and only then step 6 follows, with a differing mould id or a deferred open
(`StatusPlaced` says what placing a status does). A RELOAD PLAN begins its load, and step 6 does not follow (parts of R14, R15,
R71, R94 to R96, R102, R108, R109, R142 and R151). That this command carries out step 6 is entry 10, and that step 6 does not
wait for a status without room is entry 29. -/
def Obligations.WaitingWorkReleased : Prop :=
  (∀ (s y z : State) (pl : Plan) (p : Nat) (q : ProfilePlan) (c : Context) (w : StateWord), s.resetLow = false →
    s.tracker.state = .closing → s.closing.stage = .published →
    s.runningPlan = some pl → s.tracker.active = some p → pl.profiles[p]? = some q → s.table.contexts[p]? = some c →
    s.tracker.last = some w →
    ((∃ f args i v, f ∈ [Fn.releaseCavity, .excludeCavity, .includeCavity, .setPathEnables] ∧ args.take 2 = [p, i] ∧
        s.mail.work = some { fn := f, args := args, phase := .waiting } ∧ s.hasCavity p i v ∧
        y = settle (s.cavityDone f args p i v)) ∨
      (∃ a, s.mail.work = some { fn := .saveContext, args := [p, a], phase := .waiting } ∧
        y = settle (s.snapshot pl q c .atPublish p a)) ∨
      (∃ a, s.mail.work = some { fn := .restoreContext, args := [p, a], phase := .checked } ∧
        y = settle (s.committed q p a))) →
    StepSixGives pl w q.mouldId y z → EndsIn (exec .waitingWorkReleased s) z) ∧
  (∀ s : State, s.resetLow = false → s.tracker.state = .closing → s.closing.stage = .published →
    s.mail.work = some { fn := .reloadPlan, args := [], phase := .waiting } →
      EndsIn (exec .waitingWorkReleased s)
        (loadBegun (s.setMail { s.mail with work := some { fn := .reloadPlan, args := [], phase := .loading } })))

/-! ## Timers and lines (chapters 7 and 10, 11.10) -/

/-- LINE_TICK: while OPEN the window-limit timer and the silence timers count; the MARK pulse counts in every state, the
retry timer in NO PLAN (R155, parts of R10, R30, R118, R119 and R150); a timer at its limit holds there (entry 14). When
a MARK pulse has lasted its width, its expiry ends it. -/
def Obligations.TimersCount : Prop :=
  (∀ s : State, s.resetLow = false →
    let o := { s.out with pulse := s.out.pulse.map fun p => { p with count := if p.width ≤ p.count then p.count else p.count + 1 } }
    (∀ pl, s.runningPlan = some pl → s.tracker.state = .opened →
      exec .lineTick s
        = .next (((s.setTracker { s.tracker with
              limitTimer := s.tracker.limitTimer.map fun n => if pl.windowLimit ≤ n then n else n + 1 }).setAsm
            (s.asm.map fun x => { x with
              silenceTimer := x.silenceTimer.map fun n => if pl.silenceLimit ≤ n then n else n + 1 })).setOut o)) ∧
    (s.loader.run = .running → s.tracker.state ≠ .opened → exec .lineTick s = .next (s.setOut o)) ∧
    (s.loader.run = .noPlan →
      exec .lineTick s
        = .next ((s.setOut o).setLoader { s.loader with
            retry := s.loader.retry.map fun n => if 2000 ≤ n then n else n + 1 })) ∧
    (s.loader.run = .loading → exec .lineTick s = .next (s.setOut o))) ∧
  (∀ (s : State) (p : Pulse), s.resetLow = false → s.out.pulse = some p → p.width ≤ p.count →
    exec .markPulseExpiry s = .next (s.setOut { s.out with pulse := none }))

/-- Whole machine: the stop latch becomes set by nothing but a channel close of the active profile with stop action on, in
which a cavity that was not CRACKED enters CRACKED; and such a close does set it (R112, parts of R87 and R111). The cavity is
measured after a request that was handed over and not begun, which the close carries out first (R72, entry 9). -/
def Obligations.LatchSetOnlyByClose : Prop :=
  (∀ (c : Instr) (s t : State), exec c s = .next t → s.out.stopLatch = false → t.out.stopLatch = true →
    c = .channelClose ∧
      ∃ pl p q i v w, s.runningPlan = some pl ∧ s.tracker.active = some p ∧ pl.profiles[p]? = some q ∧
        q.stopAction = true ∧ (carryOut s).hasCavity p i v ∧ v.state ≠ .cracked ∧ t.hasCavity p i w ∧
        w.state = .cracked) ∧
  (∀ (s t : State) (pl : Plan) (p i : Nat) (q : ProfilePlan) (v w : CavityCtx), exec .channelClose s = .next t →
    (∀ k, s.mail.work = some k → k.phase ≠ .handed) → s.runningPlan = some pl → s.tracker.active = some p →
    pl.profiles[p]? = some q →
    q.stopAction = true → s.hasCavity p i v → v.state ≠ .cracked → t.hasCavity p i w → w.state = .cracked →
      t.out.stopLatch = true)

/-! ## Verdicts and notices (chapter 8) -/

/-- A write of the notice consumer word while RUNNING is taken when its four lanes are written and it lies between the
consumer index and the producer index, going forward around the ring; any other is ignored. Outside RUNNING it is not
examined (R129, part of R120). -/
def Obligations.ConsumerWrite : Prop :=
  ∀ (s : State) (a : Addr) (d : Word) (l : Lanes), s.takes → a.toNat = s.base + 0x48 →
    let m := mergeAndForward (oneWord a d l) s
    (∀ pl, s.runningPlan = some pl → 0 < pl.ringSize → s.report.consumer < pl.ringSize → s.report.producer < pl.ringSize →
      (l = 15 → d.toNat < pl.ringSize →
        ((d.toNat : Int) - s.report.consumer) % pl.ringSize ≤ ((s.report.producer : Int) - s.report.consumer) % pl.ringSize →
          exec (.noticeConsumerWrite (oneWord a d l)) s = .next (m.setReport { s.report with consumer := d.toNat })) ∧
      (¬ (l = 15 ∧ d.toNat < pl.ringSize ∧
          ((d.toNat : Int) - s.report.consumer) % pl.ringSize
            ≤ ((s.report.producer : Int) - s.report.consumer) % pl.ringSize) →
          exec (.noticeConsumerWrite (oneWord a d l)) s = .next m)) ∧
    (s.loader.run ≠ .running → exec (.noticeConsumerWrite (oneWord a d l)) s = .next m)

/-- A raised notice takes the current sequence number; a masked one is dropped without trace, and outside RUNNING nothing is
written (R127, part of R120). It is placed entry by entry: its four words at the ring entry of the producer index, then the
new producer index; with the ring full it is lost and the overflow count is posted (R128, the layout of 11.7). -/
def Obligations.NoticePlaced : Prop :=
  (∀ (s : State) (g : Option Gate) (n : Notice),
      (∀ r, s.loader.run = .running → s.report.ring = some r → r.kindMask.getLsbD n.kind.code = true →
        raiseNotice g n s
          = s.setReport { s.report with
              seq := (s.report.seq + 1) % 65536, items := s.report.items ++ [.notice n s.report.seq g] }) ∧
      (∀ r, s.loader.run = .running → s.report.ring = some r → r.kindMask.getLsbD n.kind.code = false →
        raiseNotice g n s = s) ∧
      (s.loader.run ≠ .running → raiseNotice g n s = s)) ∧
  (∀ (s : State) (r : Ring) (n : Notice) (seq : Nat), s.resetLow = false → s.report.ring = some r →
      s.report.items = [.notice n seq none] → s.closing.items = [] → s.path.queue.length + 5 ≤ 32 →
      r.size ≤ 1024 → s.report.producer < r.size → s.report.consumer < r.size → s.report.overflow ≤ 65535 → seq < 65536 →
      n.subject < 65536 → n.cycle < 65536 → n.detail < 2 ^ 32 → n.profile.getD 0xFF < 256 →
        let e := r.base + s.report.producer * 16
        let next := (s.report.producer + 1) % r.size
        (next ≠ s.report.consumer →
          runAll (List.replicate 5 (.queueRoomPlacement .reportWriter)) s
            = some ((s.setPath { s.path with
                queue := s.path.queue ++
                  [.post e (BitVec.ofNat 32 (n.kind.code + n.profile.getD 0xFF * 2 ^ 8 + n.subject * 2 ^ 16)) 0,
                   .post (e + 4) (BitVec.ofNat 32 (n.cycle + seq * 2 ^ 16)) 0,
                   .post (e + 8) (BitVec.ofNat 32 n.detail) 0,
                   .post (e + 12) (BitVec.ofNat 32 (s.report.overflow + s.report.producer * 2 ^ 16)) 0,
                   .post (s.base + 0x40) (BitVec.ofNat 32 next) 0] }).setReport
              { s.report with producer := next, items := [] })) ∧
        (next = s.report.consumer →
          exec (.queueRoomPlacement .reportWriter) s
            = .next ((s.setPath { s.path with
                queue := s.path.queue ++ [.post (s.base + 0x44) (BitVec.ofNat 32 (min 65535 (s.report.overflow + 1))) 0] }).setReport
              { s.report with overflow := min 65535 (s.report.overflow + 1), items := [] })))

/-- The close bank and the activation bank word by word, numbered as the verdict window numbers them (parts of R32, R50, R67,
R122 and R123, the layout of 11.5): word 1 the cycle number, profile, bank kind and flags; words 2 and 3 the counts of each
state, of blind and of evaluated cavities; words 4 to 7 the medians; words 8 to 55 the verdict words, zero beyond the last
cavity; words 56 and 57 the responsive flags; words 60 to 63 the counts and latch of each window. An activation bank has the
cycle of the last accepted word, kind 2, no flag, no evaluated cavity, medians 256 and zeros for the windows. -/
def Obligations.BankWords : Prop :=
  (∀ (s : State) (p : Nat) (c : Context) (outs : List CavOut) (median : Nat → Nat) (long : Bool),
    c.cavities.length ≤ 48 → outs.length ≤ 48 → p ≤ 3 → s.tracker.openCycle < 65536 → (∀ g, median g ≤ 65535) →
    s.asm.length = 4 → (∀ x ∈ s.asm, x.overrun ≤ 255 ∧ x.broken ≤ 255 ∧ x.gap ≤ 255) →
    (∀ w, s.tracker.last = some w → w.cycle < 65536) →
      let close := closeBank s p c outs median long
      let act := activationBank s p c
      let n := fun st : CavState => c.cavities.countP fun v => v.state == st
      let all := n .sound + n .watch * 2 ^ 8 + n .suspect * 2 ^ 16 + n .cracked * 2 ^ 24
      let seen := outs.countP fun o => o.before.state != .excluded && !o.after.blind
      let blind := outs.countP fun o => o.before.state != .excluded && o.after.blind
      close.length = 61 ∧ act.length = 61 ∧
      close[0]? = some (BitVec.ofNat 32 (s.tracker.openCycle + p * 2 ^ 16 + 2 ^ 20 +
        (if s.tracker.lateStart then 2 ^ 24 else 0) + if long then 2 ^ 25 else 0)) ∧
      act[0]? = some (BitVec.ofNat 32 ((s.tracker.last.map fun w => w.cycle).getD 0 + p * 2 ^ 16 + 2 * 2 ^ 20)) ∧
      close[1]? = some (BitVec.ofNat 32 all) ∧ act[1]? = some (BitVec.ofNat 32 all) ∧
      close[2]? = some (BitVec.ofNat 32 (n .learning + n .excluded * 2 ^ 8 + blind * 2 ^ 16 + seen * 2 ^ 24)) ∧
      act[2]? = some (BitVec.ofNat 32 (n .learning + n .excluded * 2 ^ 8 + (c.cavities.countP fun v => v.blind) * 2 ^ 16)) ∧
      n .sound + n .watch + n .suspect + n .cracked + n .learning + n .excluded = c.cavities.length ∧
      (∀ j, j < 4 → close[3 + j]? = some (BitVec.ofNat 32 (median (2 * j) + median (2 * j + 1) * 2 ^ 16)) ∧
        act[3 + j]? = some (BitVec.ofNat 32 (256 + 256 * 2 ^ 16))) ∧
      (∀ i v, c.cavities[i]? = some v → close[7 + i]? = some (verdictWord v) ∧ act[7 + i]? = some (verdictWord v)) ∧
      (∀ i, c.cavities.length ≤ i → i < 48 → close[7 + i]? = some 0 ∧ act[7 + i]? = some 0) ∧
      (∀ h, h < 2 → ∃ w, close[55 + h]? = some w ∧ act[55 + h]? = some w ∧
        ∀ k, k < 32 → (w.getLsbD k = true ↔ ∃ x ∈ c.channels, x.number = 32 * h + k ∧ x.responsive = true)) ∧
      (∀ i x, s.asm[i]? = some x → act[57 + i]? = some 0 ∧
        close[57 + i]? = some (BitVec.ofNat 32 (x.overrun + x.broken * 2 ^ 8 + x.gap * 2 ^ 16 +
          if x.silenceLatch then 2 ^ 24 else 0)))) ∧
  (∀ v : CavityCtx, v.score ≤ 65535 → v.confirm ≤ 7 →
    let w := (verdictWord v).toNat
    w % 2 ^ 16 = v.score ∧ w / 2 ^ 16 % 8 = v.state.code ∧ (w / 2 ^ 19 % 2 = 1 ↔ v.blind = true) ∧
      (w / 2 ^ 20 % 2 = 1 ↔ v.bound ≠ none) ∧ (∀ k : Fin 4, v.bound = some k → w / 2 ^ 21 % 4 = k.val) ∧
      w / 2 ^ 24 % 8 = (match v.reported with
        | some k => k.val
        | none => 7) ∧ w / 2 ^ 28 % 8 = v.confirm ∧ w / 2 ^ 31 = 1) ∧
  (∀ (rs : List ChanResult) (q : ProfilePlan),
    someLong rs q = true ↔ ∃ r ∈ rs, r.acc.long = true ∧ r.number ∈ q.chans)

/-- The records of a close: a cavity that is not EXCLUDED has one in mode EVERY, and in mode ON CHANGE if its state, blind flag,
bound slot or reported slot changed or its binding was lost; its words go to ascending addresses at the place its format
gives, cavity after cavity (parts of R125 and R126); and the words have the fields of 11.6, for values in their ranges. -/
def Obligations.RecordWords : Prop :=
  (∀ (s : State) (p : Nat) (q : ProfilePlan) (rs : List ChanResult) (xs ys : List CavOut) (o : CavOut),
    let changed := o.before.state ≠ o.after.state ∨ o.before.blind ≠ o.after.blind ∨ o.before.bound ≠ o.after.bound ∨
      o.before.reported ≠ o.after.reported ∨ o.lost ≠ none
    let posted := o.before.state ≠ .excluded ∧ (q.recordMode = .every ∨ (q.recordMode = .onChange ∧ changed))
    let a := if q.recordFormat = .short then q.recordOrigin + 32 * o.number else o.plan.longAddr
    (posted → recordItems s p q rs [o] = (recordWords s p q rs o).mapIdx fun i w => .post (a + 4 * i) w) ∧
      (¬ posted → recordItems s p q rs [o] = []) ∧
      recordItems s p q rs (xs ++ ys) = recordItems s p q rs xs ++ recordItems s p q rs ys ∧
      (recordWords s p q rs o).length = if q.recordFormat = .short then 8 else 16) ∧
  (∀ (s : State) (p : Nat) (q : ProfilePlan) (rs : List ChanResult) (o : CavOut), p ≤ 3 → s.tracker.openCycle < 65536 →
    o.evidence ≤ 255 → o.v ≤ 255 → o.a ≤ 255 → o.number < 48 → o.median ≤ 65535 → o.q.getD 0 ≤ 65535 → o.before.score ≤ 65535 →
    (∀ r ∈ rs, r.number < 64 ∧ r.rms ≤ 32767 ∧ r.acc.qualified ≤ 255 ∧ r.acc.peak ≤ 65535) →
      let f := fun i => ((recordWords s p q rs o).getD i 0).toNat
      (f 0 % 2 ^ 16 = s.tracker.openCycle ∧ (f 0 / 2 ^ 16 % 2 = 1 ↔ o.before.state ≠ o.after.state) ∧
        (f 0 / 2 ^ 17 % 2 = 1 ↔ o.before.blind ≠ o.after.blind) ∧ (f 0 / 2 ^ 18 % 2 = 1 ↔ o.before.bound ≠ o.after.bound) ∧
        (f 0 / 2 ^ 19 % 2 = 1 ↔ o.before.reported ≠ o.after.reported) ∧ (f 0 / 2 ^ 20 % 2 = 1 ↔ o.lost ≠ none) ∧
        (f 0 / 2 ^ 21 % 2 = 1 ↔ o.before.state ≠ .cracked ∧ o.after.state = .cracked) ∧
        (f 0 / 2 ^ 22 % 2 = 1 ↔ s.tracker.lateStart = true) ∧ (f 0 / 2 ^ 23 = 1 ↔ o.q ≠ none)) ∧
      f 1 = (verdictWord o.after).toNat ∧
      (f 2 % 2 ^ 8 = o.evidence ∧ f 2 / 2 ^ 8 % 2 ^ 8 = o.v ∧ f 2 / 2 ^ 16 % 2 ^ 8 = o.a ∧ f 2 / 2 ^ 24 = o.number) ∧
      (f 3 % 2 ^ 16 = o.q.getD 0 ∧ f 3 / 2 ^ 16 = o.median) ∧
      (o.after.reported = none → f 4 = 0 ∧ f 5 = 0) ∧
      (∀ k r, o.after.reported = some k → resultOf rs (o.plan.chan k) = some r →
        f 4 % 2 ^ 16 = r.rms ∧ f 4 / 2 ^ 16 % 2 ^ 8 = r.acc.qualified ∧ f 4 / 2 ^ 24 = o.plan.chan k ∧
          f 5 % 2 ^ 16 = r.acc.peak ∧ f 5 / 2 ^ 16 = r.outcome.code) ∧
      (f 6 % 2 ^ 16 = o.before.score ∧ f 6 / 2 ^ 16 = o.before.state.code) ∧
      (f 7 % 2 ^ 16 = s.tracker.openCycle ∧ f 7 / 2 ^ 16 = p) ∧
      (q.recordFormat = .long → o.slots.Pairwise (fun x y => x.slot < y.slot) → ∀ k : Fin 4,
        ((∀ x ∈ o.slots, x.slot ≠ k) → f (9 + 2 * k.val) = 0 ∧
          (∀ r, o.plan.has k = true → outcomeAt rs (o.plan.chan k) = some r → r ≠ .good →
            f (8 + 2 * k.val) = r.code * 2 ^ 16) ∧
          ((o.plan.has k = false ∨ outcomeAt rs (o.plan.chan k) = some .good) → f (8 + 2 * k.val) = 7 * 2 ^ 16)) ∧
        (∀ x r, x ∈ o.slots → x.slot = k → x.ratio.getD 0 ≤ 65535 → resultOf rs (o.plan.chan k) = some r →
          f (8 + 2 * k.val) % 2 ^ 16 = x.ratio.getD 0 ∧ f (8 + 2 * k.val) / 2 ^ 16 % 8 = r.outcome.code ∧
            (f (8 + 2 * k.val) / 2 ^ 19 % 2 = 1 ↔ x.ratio ≠ none) ∧ f (8 + 2 * k.val) / 2 ^ 24 = o.plan.chan k ∧
            f (9 + 2 * k.val) % 2 ^ 16 = r.rms ∧ f (9 + 2 * k.val) / 2 ^ 16 = r.acc.qualified)))

/-- Word 0 of the verdict window shows the live state of its owners, words 58 and 59 the channels of the held plan while a
profile is active (R121, the layout of 11.5; that the fault reason shows in NO PLAN only is entry 20); and the levels of
STOP, MARK and ATTN follow their owners (parts of R114, R118, R130 and R139). -/
def Obligations.LiveWordsAndLines : Prop :=
  ((∀ s : State, (∀ p, s.tracker.active = some p → p ≤ 3) → s.out.marks.length ≤ 8 →
      let w := (liveWord s).toNat
      w % 4 = s.loader.run.code ∧ w / 2 ^ 4 % 16 = (if s.loader.run = .noPlan then s.loader.fault.code else 0) ∧
        w / 2 ^ 8 % 4 = s.tracker.state.code ∧ w / 2 ^ 10 % 8 = s.tracker.active.getD 7 ∧
        (∀ pl p q, s.loader.plan = some pl → s.tracker.active = some p → pl.profiles[p]? = some q → q.mouldId ≤ 15 →
          w / 2 ^ 16 % 16 = q.mouldId) ∧
        (s.tracker.active = none → w / 2 ^ 16 % 16 = 0) ∧
        (w / 2 ^ 20 % 2 = 1 ↔ s.out.stopLatch = true) ∧ (w / 2 ^ 21 % 2 = 1 ↔ s.stopLine = true) ∧
        w / 2 ^ 24 % 16 = s.out.marks.length ∧ (w / 2 ^ 28 % 2 = 1 ↔ s.out.pulse ≠ none)) ∧
    (∀ (s : State) (half k : Nat), half < 2 → k < 32 →
      (∀ pl p, s.loader.plan = some pl → s.tracker.active = some p →
        ((definedWord s half).getLsbD k = true ↔ (pl.channel (32 * half + k)).isSome = true)) ∧
      (s.tracker.active = none → definedWord s half = 0))) ∧
  (∀ s : State,
      (s.resetLow = true → s.stopLine = false ∧ s.markLine = false ∧ s.attnLine = false) ∧
      (s.resetLow = false → s.out.stopHigh = none → s.stopLine = false) ∧
      (∀ high, s.resetLow = false → s.out.stopHigh = some high → (s.stopLine = high ↔ s.out.stopLatch = true)) ∧
      (s.resetLow = false → (s.markLine = true ↔ s.out.pulse ≠ none)) ∧
      (s.resetLow = false →
        (s.attnLine = true ↔ s.report.producer ≠ s.report.consumer ∨ s.loader.run = .noPlan)))

/-! ## The request mailbox and the requests (chapters 3 to 10) -/

/-- The mailbox examines a forwarded write of word `i`: a collection starts or restarts at word 1, an argument is taken at
the expected index, and any other write while COLLECTING makes the request malformed; in IDLE it is ignored, and in TAKEN
it sets the disturbed flag (R140, the status layout of 11.4). -/
def Obligations.RequestCollected : Prop :=
  ∀ (s : State) (i : Nat) (a : Addr) (d : Word) (l : Lanes), s.takes → 1 ≤ i → i ≤ 15 → a.toNat = s.base + 4 * i →
    let m := mergeAndForward (oneWord a d l) s
    let started := m.setMail { s.mail with state := .collecting, fn := d, args := [], expected := 2, disturbed := false }
    let n := (s.mail.serial + 1) % 256
    let status := BitVec.ofNat 32 (2 + n * 2 ^ 8 + s.mail.fn.toNat % 256 * 2 ^ 16 + 7 * 2 ^ 24)
    (s.mail.state = .idle → l = 15 → i = 1 → exec (.mailboxWordWrite (oneWord a d l)) s = .next started) ∧
    (s.mail.state = .idle → ¬ (l = 15 ∧ i = 1) → exec (.mailboxWordWrite (oneWord a d l)) s = .next m) ∧
    (s.mail.state = .collecting → l = 15 → i = 1 → exec (.mailboxWordWrite (oneWord a d l)) s = .next started) ∧
    (s.mail.state = .collecting → l = 15 → i ≠ 1 → i = s.mail.expected → i ≠ 15 → d ≠ 0xFFFFFFFF →
      exec (.mailboxWordWrite (oneWord a d l)) s
        = .next (m.setMail { s.mail with args := s.mail.args ++ [d], expected := i + 1 })) ∧
    (s.mail.state = .collecting →
      (l ≠ 15 ∨ (i ≠ 1 ∧ i ≠ s.mail.expected) ∨ (i = 15 ∧ i = s.mail.expected ∧ d ≠ 0xFFFFFFFF)) →
        EndsIn (exec (.mailboxWordWrite (oneWord a d l)) s)
          (m.setMail { s.mail with
            state := .idle, serial := n, args := [], disturbed := false
            items := s.mail.items ++ [.finished status n .malformed] })) ∧
    (s.mail.state = .taken →
      exec (.mailboxWordWrite (oneWord a d l)) s = .next (m.setMail { s.mail with disturbed := true }))

/-- The terminator takes the request: the serial counts on, the TAKEN status is to be placed, and the five checks are made
in order; the first that fails completes the request with its result. A request that passes is handed to its owner, or
waits (R141, part of R15). -/
def Obligations.RequestTaken : Prop :=
  ∀ (s : State) (i : Nat) (a : Addr), s.takes → 2 ≤ i → i ≤ 15 → a.toNat = s.base + 4 * i → s.mail.state = .collecting →
    s.mail.expected = i →
      let m := mergeAndForward (oneWord a 0xFFFFFFFF 15) s
      let args := s.mail.args.map BitVec.toNat
      let n := (s.mail.serial + 1) % 256
      let status := BitVec.ofNat 32 (1 + n * 2 ^ 8 + s.mail.fn.toNat % 256 * 2 ^ 16)
      let taken := { s.mail with
        state := .taken, serial := n, disturbed := false, work := none, items := s.mail.items ++ [MailItem.taken status] }
      let refused := fun r : Result => m.setMail { taken with items := taken.items ++ [MailItem.done r s.loader.fault] }
      let o := exec (.mailboxWordWrite (oneWord a 0xFFFFFFFF 15)) s
      (Fn.ofCode s.mail.fn.toNat = none → EndsIn o (refused .unknownFunction)) ∧
      ∀ f, Fn.ofCode s.mail.fn.toNat = some f →
        (args.length ≠ f.arity → EndsIn o (refused .argumentCount)) ∧
        (args.length = f.arity → s.loader.run ≠ .running → f ≠ .reloadPlan → f ≠ .setOverlay →
          EndsIn o (refused .noPlan)) ∧
        (args.length = f.arity → (s.loader.run = .running ∨ f = .reloadPlan ∨ f = .setOverlay) →
          (rangesOk s f args = false → EndsIn o (refused .argumentRange)) ∧
          (rangesOk s f args = true → stateOk s f args = false → EndsIn o (refused .wrongState)) ∧
          (rangesOk s f args = true → stateOk s f args = true →
            EndsIn o (m.setMail { taken with
              work := some { fn := f, args := args, phase := if waitsForWindow s f args then .waiting else .handed } })))

/-- The ranges and states that the checks ask for, and what waits (R52, R70, R93, R101, R104, parts of R15, R94, R96 and
R133), with a plan held. EXCLUDE CAVITY, SET PATH ENABLES, ACKNOWLEDGE STOP, SAVE CONTEXT, RESTORE CONTEXT, RELOAD PLAN and
SET OVERLAY ask for no state (R113, parts of R70, R95, R101 and R104), RELOAD PLAN and ACKNOWLEDGE STOP for no range; this, and
the range of SET OVERLAY, holds in every run state, and outside RUNNING neither SET OVERLAY nor RELOAD PLAN waits (parts of
R133 and R151). -/
def Obligations.RequestChecks : Prop :=
  (∀ (s : State) (pl : Plan) (x y z : Nat), s.runningPlan = some pl → pl.profiles.length ≤ 4 →
    let names := ∃ q, pl.profiles[x]? = some q ∧ y < q.cavities.length
    let apart := fun a n : Nat =>
      a % 4 = 0 ∧ a + n ≤ 2 ^ 24 ∧ (a + n ≤ s.base ∨ s.base + 0x2400 ≤ a) ∧
        ∀ w ∈ pl.windows, a + n ≤ w.base ∨ w.base + w.ringBytes ≤ a
    let excluded := ∃ v, s.hasCavity x y v ∧ v.state = .excluded
    (rangesOk s .releaseCavity [x, y, z] = true ↔ names ∧ z ≤ 1) ∧
    (rangesOk s .excludeCavity [x, y] = true ↔ names) ∧
    (rangesOk s .includeCavity [x, y] = true ↔ names) ∧
    (rangesOk s .setPathEnables [x, y, z] = true ↔ names ∧ z ≤ 15) ∧
    (rangesOk s .setOverlay [x] = true ↔ x = 0 ∨ x = 1) ∧
    ((∀ w ∈ pl.windows, 0 < w.ringBytes) →
      (rangesOk s .dumpChannels [x] = true ↔ apart x 1024) ∧
      (∀ f ∈ [Fn.saveContext, .restoreContext], rangesOk s f [x, y] = true ↔
        ∃ q, pl.profiles[x]? = some q ∧ apart y (4 * (8 + 6 * q.cavities.length + q.chans.length)))) ∧
    (stateOk s .releaseCavity [x, y, z] = true ↔ ¬ excluded) ∧
    (stateOk s .includeCavity [x, y] = true ↔ excluded) ∧
    (stateOk s .dumpChannels [x] = true ↔ s.eval.held ≠ none) ∧
    (∀ f ∈ [Fn.releaseCavity, .excludeCavity, .includeCavity, .setPathEnables],
      waitsForWindow s f [x, y, z] = true ↔ s.tracker.active = some x ∧ s.tracker.state = .closing) ∧
    (waitsForWindow s .saveContext [x, y] = true ↔
      s.tracker.active = some x ∧ (s.tracker.state = .opened ∨ s.tracker.state = .closing)) ∧
    (waitsForWindow s .reloadPlan [] = true ↔ s.tracker.state = .closing) ∧
    (∀ f ∈ [Fn.acknowledgeStop, .restoreContext, .setOverlay, .dumpChannels], waitsForWindow s f [x] = false)) ∧
  (∀ (s : State) (args : List Nat),
    (∀ f ∈ [Fn.excludeCavity, .setPathEnables, .acknowledgeStop, .saveContext, .restoreContext, .reloadPlan, .setOverlay],
      stateOk s f args = true) ∧
    rangesOk s .reloadPlan args = true ∧ rangesOk s .acknowledgeStop args = true ∧
    (∀ x, rangesOk s .setOverlay [x] = true ↔ x = 0 ∨ x = 1) ∧
    waitsForWindow s .setOverlay args = false ∧ (s.loader.run ≠ .running → waitsForWindow s .reloadPlan args = false))

/-- The mailbox places its statuses first in, first out (R141, R142, 11.4): the TAKEN word as it stands; a DONE word with the
disturbed flag as it then is, the serial, the function code, the result, and the plan fault for PLAN REJECTED, with which the
mailbox enters IDLE; a status whose request is no longer held as it stands. The REQUEST DONE notice is raised after a DONE
(entry 13) and names the profile and cycle that the tracker then holds (entry 29). A DONE status waits while a report writer
entry that it must follow is still to be placed (R93, R149); no other status does (entry 12). Where a step has done its work and
nothing but the DONE status waits, with room for six entries and a ring that is not full, that step's placing puts the status word
and then the whole REQUEST DONE notice into the queue: so the released work of `WaitingWorkReleased` is reported before step 6
(R15). -/
def Obligations.StatusPlaced : Prop :=
  (∀ s : State, s.resetLow = false → s.path.queue.length < 32 →
    (s.closing.items = [] ∨ ∃ i ∈ s.report.items, i.gate = some .closeStep) →
      let o := exec (.queueRoomPlacement .mailbox) s
      let posted := fun w : Word => s.setPath { s.path with queue := s.path.queue ++ [.post s.base w 0] }
      (∀ w r, s.mail.items = .taken w :: r → o = .next ((posted w).setMail { s.mail with items := r })) ∧
      (∀ w n x r, s.mail.items = .finished w n x :: r →
        o = .next (((posted w).setMail { s.mail with items := r }).requestDone n x)) ∧
      (∀ x f r, s.mail.items = .done x f :: r → (∀ i ∈ s.report.items, i.gate ≠ some .mailbox) →
        o = .next (((posted (doneStatus s.mail x f)).setMail
          { s.mail with state := .idle, work := none, items := r }).requestDone s.mail.serial x)) ∧
      (∀ x f r, s.mail.items = .done x f :: r → (∃ i ∈ s.report.items, i.gate = some .mailbox) → o = .next s) ∧
      (s.mail.items = [] → o = .next s)) ∧
  (∀ (s : State) (x : Result) (f : PlanFault) (r : Ring), s.mail.items = [.done x f] → s.report.items = [] →
    s.closing.items = [] → s.table.items = [] → s.eval.dump = [] → s.loader.items = [] → s.path.queue.length + 6 ≤ 32 →
    s.loader.run = .running → s.report.ring = some r → r.kindMask.getLsbD NoticeKind.requestDone.code = true →
    r.size ≤ 1024 → s.report.producer < r.size → (s.report.producer + 1) % r.size ≠ s.report.consumer →
    s.report.overflow ≤ 65535 → s.report.seq < 65536 → s.tracker.openCycle < 65536 → s.mail.serial < 256 →
    (∀ p, s.tracker.active = some p → p ≤ 3) →
      let e := r.base + s.report.producer * 16
      let next := (s.report.producer + 1) % r.size
      settle s
        = ((s.setPath { s.path with
              queue := s.path.queue ++
                [.post s.base (doneStatus s.mail x f) 0,
                 .post e (BitVec.ofNat 32
                   (NoticeKind.requestDone.code + s.tracker.active.getD 0xFF * 2 ^ 8 + s.mail.serial * 2 ^ 16)) 0,
                 .post (e + 4) (BitVec.ofNat 32 (s.tracker.openCycle + s.report.seq * 2 ^ 16)) 0,
                 .post (e + 8) (BitVec.ofNat 32 x.code) 0,
                 .post (e + 12) (BitVec.ofNat 32 (s.report.overflow + s.report.producer * 2 ^ 16)) 0,
                 .post (s.base + 0x40) (BitVec.ofNat 32 next) 0] }).setMail
            { s.mail with state := .idle, work := none, items := [] }).setReport
          { s.report with producer := next, seq := (s.report.seq + 1) % 65536 })

/-- RELEASE CAVITY in its two modes, EXCLUDE CAVITY, INCLUDE CAVITY and SET PATH ENABLES: the items each sets and holds, the
CAVITY STATE notice of a changed state, which is placed before the status, and OK (R94, R95, R96, parts of R71, R93 and R142).
ACKNOWLEDGE STOP and SET OVERLAY: each changes its one item and completes with OK, and raises no notice but its REQUEST DONE
(parts of R113 and R133). -/
def Obligations.ShortRequests : Prop :=
  (∀ (s : State) (p c x : Nat) (v : CavityCtx), s.hasCavity p c v →
    (s.handed .releaseCavity [p, c, x] → x ≤ 1 →
      EndsIn (exec .releaseCavity s) (s.cavityDone .releaseCavity [p, c, x] p c v)) ∧
    (s.handed .excludeCavity [p, c] → EndsIn (exec .excludeCavity s) (s.cavityDone .excludeCavity [p, c] p c v)) ∧
    (s.handed .includeCavity [p, c] → EndsIn (exec .includeCavity s) (s.cavityDone .includeCavity [p, c] p c v)) ∧
    (s.handed .setPathEnables [p, c, x] →
      EndsIn (exec .setPathEnables s) (s.cavityDone .setPathEnables [p, c, x] p c v))) ∧
  (∀ s : State, s.handed .acknowledgeStop [] →
    EndsIn (exec .acknowledgeStop s)
      ((s.setOut { s.out with stopLatch := false }).finished .acknowledgeStop [] .ok)) ∧
  (∀ (s : State) (x : Nat), s.handed .setOverlay [x] → x ≤ 1 →
    EndsIn (exec .setOverlay s) ((s.setPath { s.path with overlay := x == 1 }).finished .setOverlay [x] .ok))

/-- SAVE CONTEXT takes its snapshot AT ONCE and has one POST per image word to place, at ascending addresses; RESTORE
CONTEXT has one FETCH per image word to place; DUMP CHANNELS has 256 POSTs to place from the held set, four words for each
channel with the fields of 11.7, zeros for a channel the plan does not define (parts of R53, R102, R103 and R105). -/
def Obligations.AreaRequests : Prop :=
  ∀ (s : State) (pl : Plan), s.loader.plan = some pl →
    (∀ p a q c, s.handed .saveContext [p, a] → pl.profiles[p]? = some q → s.table.contexts[p]? = some c →
      EndsIn (exec .saveContext s) (s.snapshot pl q c .atOnce p a)) ∧
    (∀ p a q, s.handed .restoreContext [p, a] → pl.profiles[p]? = some q →
      EndsIn (exec .restoreContext s)
        ((s.setTable { s.table with
            buf := []
            items := (List.range (8 + 6 * q.cavities.length + q.chans.length)).map fun i =>
              .fetch (a + 4 * i) .contextTable }).setMail
          { s.mail with work := some { fn := .restoreContext, args := [p, a], phase := .reading } })) ∧
    (∀ a h, s.handed .dumpChannels [a] → s.eval.held = some h → h.length = 64 →
      ∃ es, EndsIn (exec .dumpChannels s)
          ((s.setEval { s.eval with dump := es }).setMail
            { s.mail with work := some { fn := .dumpChannels, args := [a], phase := .placing } }) ∧
        es.length = 256 ∧
        (∀ n x c o v w, h[n]? = some x → pl.channel n = some c → x.outcome = some o → v ≤ 3 → pl.windows[v]? = some w →
          n ∈ w.chans → (∀ i u, i < v → pl.windows[i]? = some u → n ∉ u.chans) →
          x.n ≤ 65535 → x.rms ≤ 65535 → x.hits ≤ 65535 → x.qualified ≤ 255 → x.peak ≤ 65535 → x.clips ≤ 65535 →
            es[4 * n]? = some (.post (a + 16 * n) (BitVec.ofNat 32 (x.n + x.rms * 2 ^ 16)) 0) ∧
            es[4 * n + 1]? = some (.post (a + 16 * n + 4) (BitVec.ofNat 32
              (x.hits + x.qualified * 2 ^ 16 + o.code * 2 ^ 24 + if x.long then 2 ^ 27 else 0)) 0) ∧
            es[4 * n + 2]? = some (.post (a + 16 * n + 8) (BitVec.ofNat 32 (x.peak + x.clips * 2 ^ 16)) 0) ∧
            es[4 * n + 3]? = some (.post (a + 16 * n + 12) (BitVec.ofNat 32 (c.kind.code + v * 4)) 0)) ∧
        ∀ n x k, h[n]? = some x → k < 4 → (pl.channel n = none ∨ x.outcome = none) →
          es[4 * n + k]? = some (.post (a + 16 * n + 4 * k) 0 0))

/-- RELOAD PLAN begins a load at once in NO MOULD, ARMED, NO PLAN and LOADING; while OPEN it first abandons the window with
reason PLAN RELOAD, whose notice goes to the old ring (its subject 0 is entry 28); while CLOSING it waits. An expiry of the
retry timer begins a load (R151, parts of R11, R145 and R150). -/
def Obligations.LoadBegins : Prop :=
  (∀ s : State, s.handed .reloadPlan [] →
    let t := s.setMail { s.mail with work := some { fn := .reloadPlan, args := [], phase := .loading } }
    ((s.loader.run = .running → s.tracker.state = .noMould ∨ s.tracker.state = .armed) →
      EndsIn (exec .reloadPlan s) (loadBegun t)) ∧
    (s.loader.run = .running → s.tracker.state = .opened →
      EndsIn (exec .reloadPlan s) (loadBegun (raiseNotice none (s.naming .windowAbandoned 0 4) t))) ∧
    (s.loader.run = .running → s.tracker.state = .closing →
      EndsIn (exec .reloadPlan s)
        (s.setMail { s.mail with work := some { fn := .reloadPlan, args := [], phase := .waiting } }))) ∧
  (∀ (s : State) (n : Nat), s.resetLow = false → s.loader.run = .noPlan → s.loader.retry = some n → 2000 ≤ n →
    EndsIn (exec .retryTimerExpiry s) (loadBegun s))

/-- An image that SAVE CONTEXT writes passes the two checks of RESTORE CONTEXT for its profile, and the context that it
holds is the context that was saved (R100, R106, R107, R109 and the layout of 11.8): no item of a context is lost or
changed by a save and a restore. The header words that a restore does not check hold the plan serial, the open-window cycle
number and kind of the snapshot, and the request serial and mould id, as they stand when the snapshot is taken (R100, part of
R102). -/
def Obligations.ImageRoundTrip : Prop :=
  ∀ (s : State) (pl : Plan) (q : ProfilePlan) (p : Nat) (kind : SnapshotKind) (c : Context), p ≤ 3 →
    q.cavities.length ≤ 48 → q.layoutSerial < 65536 → Context.Legal q c →
      let ws := imageOf s pl q p kind c
      ws.length = 8 + 6 * q.cavities.length + q.chans.length ∧ imageHeaderOk q p ws = true ∧ imageFieldsOk q ws = true ∧
        readContext q ws = c ∧
        (pl.serial < 65536 → s.tracker.openCycle < 65536 → s.mail.serial < 256 → q.mouldId ≤ 15 →
          let f := fun i => (ws.getD i 0).toNat
          f 2 = q.layoutSerial + pl.serial * 2 ^ 16 ∧
            f 6 = s.tracker.openCycle + (match kind with
              | .atOnce => 1
              | .atPublish => 2
              | .atAbandon => 3) * 2 ^ 16 ∧
            f 7 = s.mail.serial + q.mouldId * 2 ^ 8)

/-- The two checks of a restored image. The header passes when word 0 is 474C4A43h and the profile number, cavity and channel
count, layout serial, image length and channel mask are those of the request and of the held plan (the comparison of R106).
The fields pass when each is one that a context can hold: the table of R107, cavity by cavity and slot by slot, with the layout of
11.8. -/
def Obligations.ImageChecks : Prop :=
  (∀ (q : ProfilePlan) (p : Nat) (ws : List Word),
    let f := fun i => (ws.getD i 0).toNat
    imageHeaderOk q p ws = true ↔
      f 0 = 0x474C4A43 ∧ f 1 % 2 ^ 8 = p ∧ f 1 / 2 ^ 8 % 2 ^ 8 = q.cavities.length ∧
        f 1 / 2 ^ 16 % 2 ^ 8 = q.chans.length ∧ f 2 % 2 ^ 16 = q.layoutSerial ∧
        f 3 % 2 ^ 16 = 8 + 6 * q.cavities.length + q.chans.length ∧
        ∀ k, k < 32 → ((ws.getD 4 0).getLsbD k = true ↔ k ∈ q.chans) ∧ ((ws.getD 5 0).getLsbD k = true ↔ 32 + k ∈ q.chans)) ∧
  (∀ (q : ProfilePlan) (n : Nat),
    n ∈ q.chans ↔ n < 64 ∧ ∃ v ∈ q.cavities, ∃ k : Fin 4, v.has k = true ∧ v.chan k = n) ∧
  (∀ (q : ProfilePlan) (ws : List Word),
    let f := fun i => (ws.getD i 0).toNat
    imageFieldsOk q ws = true ↔
      ∀ i v, q.cavities[i]? = some v →
        let state := f (8 + 2 * i) % 8
        let blind := f (8 + 2 * i) / 2 ^ 3 % 2
        let confirm := f (8 + 2 * i) / 2 ^ 4 % 8
        let bound := f (8 + 2 * i) / 2 ^ 8 % 8
        let reported := f (8 + 2 * i) / 2 ^ 12 % 8
        let score := f (9 + 2 * i) % 2 ^ 16
        let learned := f (9 + 2 * i) / 2 ^ 16 % 2 ^ 9
        let suspected := state = CavState.suspect.code ∨ state = CavState.cracked.code
        state ≤ 5 ∧ (bound = 7 ∨ (suspected ∧ ∃ k : Fin 4, bound = k.val ∧ v.has k = true)) ∧
          (reported = 7 ∨ ∃ k : Fin 4, reported = k.val ∧ v.has k = true) ∧
          (score = 0 ∨ (state ≠ CavState.learning.code ∧ state ≠ CavState.excluded.code)) ∧ (confirm = 0 ∨ suspected) ∧
          (blind = 0 ∨ state ≠ CavState.excluded.code) ∧ learned ≤ 256 ∧
          ∀ k, k < 4 →
            let x := f (8 + 2 * q.cavities.length + 4 * i + k)
            x % 2 ^ 20 ≤ 524288 ∧ x / 2 ^ 20 % 2 ^ 9 ≤ 256)

/-! ## The outbound queue and plan loads (chapters 9 and 10) -/

/-- The oldest entry is performed: a POST writes its word as it stands, whole, and nothing else of memory; a FETCH reads its
word; either leaves the queue and clears the turn count (R137, parts of R105, R138 and R151). Transactions that are held, reads
or writes, one or several, then arrive again in their order, in the same step (entry 8): the first is taken, and the others are
taken or held as the arbiter then stands (part of R138). A waiting producer places its next entry at the back of the queue when there is room, and none places into a full
queue; a save and a dump complete with OK with their last word (parts of R53, R103 and R134, entry 11). -/
def Obligations.EntriesPlacedAndPerformed : Prop :=
  ((∀ (s : State) (a : Nat) (w : Word) (o : Lanes) (q : List Entry), s.resetLow = false → s.path.queue = .post a w o :: q →
      let t := (s.setPath { s.path with queue := q, turn := 0 }).setMem (writeWord s.mem a w)
      (s.path.held = [] → exec .postPerformed s = .next t) ∧
      (memWf s.mem = true →
        readWord t.mem a = w ∧ ∀ y, (y < a ∨ a + 4 ≤ y) → readByte t.mem y = readByte s.mem y)) ∧
    (∀ (s : State) (a : Nat) (d : Dest) (q : List Entry), s.resetLow = false → s.path.queue = .fetch a d :: q →
      s.path.held = [] →
        let t := s.setPath { s.path with queue := q, turn := 0 }
        let w := readWord s.mem a
        (d = .dropped → exec .fetchPerformed s = .next t) ∧
        (d = .planLoader →
          ((s.loader.phase = .header ∧ s.loader.buf.length < 3) ∨
            ∃ n, s.loader.phase = .body n ∧ s.loader.buf.length + 1 < n) →
          exec .fetchPerformed s = .next (t.setLoader { s.loader with buf := s.loader.buf ++ [w] })) ∧
        (∀ pl p x pr, d = .contextTable → s.loader.plan = some pl →
          s.mail.work = some { fn := .restoreContext, args := [p, x], phase := .reading } → pl.profiles[p]? = some pr →
          s.table.buf.length + 1 < 8 + 6 * pr.cavities.length + pr.chans.length →
            exec .fetchPerformed s = .next (t.setTable { s.table with buf := s.table.buf ++ [w] }))) ∧
    (∀ (c : Instr) (s t : State), s.resetLow = false → (∀ x ∈ s.path.held, x.ok = true) →
      ((c = .postPerformed ∧ ∃ a w o q, s.path.queue = .post a w o :: q) ∨
        (c = .fetchPerformed ∧ ∃ a d q, s.path.queue = .fetch a d :: q)) →
      exec c (s.setPath { s.path with held := [] }) = .next t →
        ∃ v, runAll (s.path.held.map Txn.command) t = some v ∧ exec c s = .next v)) ∧
  (∀ (s : State) (p : Producer), 32 ≤ s.path.queue.length → exec (.queueRoomPlacement p) s = .next s) ∧
  (∀ (s : State) (e f : Entry) (r : List Entry), s.resetLow = false → s.path.queue.length < 32 → s.closing.items = [] →
      let t := s.setPath { s.path with queue := s.path.queue ++ [e] }
      (s.table.items = e :: f :: r →
        exec (.queueRoomPlacement .contextTable) s = .next (t.setTable { s.table with items := f :: r })) ∧
      (s.eval.dump = e :: f :: r →
        exec (.queueRoomPlacement .channelEvaluator) s = .next (t.setEval { s.eval with dump := f :: r })) ∧
      (s.loader.items = e :: r → s.report.items = [] →
        exec (.queueRoomPlacement .planLoader) s = .next (t.setLoader { s.loader with items := r })) ∧
      (∀ p a, s.table.items = [e] → s.mail.work = some { fn := .saveContext, args := [p, a], phase := .placing } →
        exec (.queueRoomPlacement .contextTable) s
          = .next ((t.setTable { s.table with items := [], buf := [] }).finished .saveContext [p, a] .ok)) ∧
      (∀ a, s.eval.dump = [e] → s.mail.work = some { fn := .dumpChannels, args := [a], phase := .placing } →
        exec (.queueRoomPlacement .channelEvaluator) s
          = .next ((t.setEval { s.eval with dump := [] }).finished .dumpChannels [a] .ok)))

/-- The restored image: with its last word the header is checked, then the fields (`ImageChecks` says what they check); a
refusal changes no context, and an image that passes is committed at once unless its profile's window is open or closing;
a commit into the active profile publishes its activation bank (R106, parts of R107, R108, R109 and R142). -/
def Obligations.ImageJudged : Prop :=
  ∀ (s : State) (pl : Plan) (p x a : Nat) (pr : ProfilePlan) (q : List Entry), s.resetLow = false →
    s.path.queue = .fetch a .contextTable :: q → s.path.held = [] → s.loader.plan = some pl →
    s.mail.work = some { fn := .restoreContext, args := [p, x], phase := .reading } → pl.profiles[p]? = some pr →
    s.table.buf.length + 1 = 8 + 6 * pr.cavities.length + pr.chans.length →
      let t := s.setPath { s.path with queue := q, turn := 0 }
      let ws := s.table.buf ++ [readWord s.mem a]
      let refused := fun r => (t.setTable { s.table with buf := [] }).finished .restoreContext [p, x] r
      let busy := s.tracker.active = some p ∧ (s.tracker.state = .opened ∨ s.tracker.state = .closing)
      (imageHeaderOk pr p ws = false → EndsIn (exec .fetchPerformed s) (refused .imageMismatch)) ∧
      (imageHeaderOk pr p ws = true → imageFieldsOk pr ws = false → EndsIn (exec .fetchPerformed s) (refused .badImage)) ∧
      (imageHeaderOk pr p ws = true → imageFieldsOk pr ws = true → busy →
        EndsIn (exec .fetchPerformed s)
          ((t.setTable { s.table with buf := ws }).setMail
            { s.mail with work := some { fn := .restoreContext, args := [p, x], phase := .checked } })) ∧
      (imageHeaderOk pr p ws = true → imageFieldsOk pr ws = true → s.tracker.active ≠ some p →
        EndsIn (exec .fetchPerformed s)
          ((t.setTable { s.table with contexts := s.table.contexts.set p (readContext pr ws), buf := [] }).finished
            .restoreContext [p, x] .ok)) ∧
      (imageHeaderOk pr p ws = true → imageFieldsOk pr ws = true → s.tracker.active = some p → s.tracker.state = .armed →
        p < s.table.contexts.length →
          EndsIn (exec .fetchPerformed s) ((t.setTable { s.table with buf := ws }).committed pr p x))

/-- What the loader makes of a whole plan (R147, R148 and the sections of R154). The sections lie one after the other, as the
stored counts say, and must end within the length; then the checks 3 to 8 are made in their order, each with the codes of its
entries, and the first that fails gives its reason. A plan that passes them all is accepted with every tuning value replaced
by the nearest one in its range, and with the number of values that changed, up to 65535. That two long-record areas must be
apart is entry 18. -/
def Obligations.PlanJudged : Prop :=
  (∀ (ws : List Word) (len : Nat) (starts : List Nat),
    let f := fun i => (ws.getD i 0).toNat
    let windows := f 4 % 8
    let channels := f (11 + 7 * windows) % 2 ^ 7
    planSections ws len = some starts ↔ ∃ e, e ≤ len ∧ (starts ++ [e]).length = f 4 / 2 ^ 4 % 8 + 1 ∧
      (starts ++ [e])[0]? = some (11 + 7 * windows + 1 + 4 * channels) ∧
      ∀ j i, starts[j]? = some i → (starts ++ [e])[j + 1]? = some (i + 7 + 3 * (f i / 2 ^ 8 % 2 ^ 8))) ∧
  (∀ (ws : List Word) (len base : Nat),
    (planSections ws len = none → judgePlan ws len base = .error .length) ∧
    ∀ starts, planSections ws len = some starts →
      let p := readPlan ws starts
      let windowsOk := p.WindowsFit base ∧ windowCodes ws
      let channelsOk := p.ChannelsFit ∧ channelCodes ws
      let profilesOk := p.ProfilesFit ∧ profileCodes ws starts
      (¬ windowsOk → judgePlan ws len base = .error .window) ∧
      (windowsOk → ¬ channelsOk → judgePlan ws len base = .error .channel) ∧
      (windowsOk → channelsOk → ¬ profilesOk → judgePlan ws len base = .error .profile) ∧
      (windowsOk → channelsOk → profilesOk → ¬ p.CavitiesFit → judgePlan ws len base = .error .cavity) ∧
      (windowsOk → channelsOk → profilesOk → p.CavitiesFit → ¬ p.RingFits → judgePlan ws len base = .error .ring) ∧
      (windowsOk → channelsOk → profilesOk → p.CavitiesFit → p.RingFits → ¬ p.AddressesFit base →
        judgePlan ws len base = .error .address) ∧
      (windowsOk → channelsOk → profilesOk → p.CavitiesFit → p.RingFits → p.AddressesFit base →
        judgePlan ws len base
          = .ok (p.tuned, min 65535 ((p.values.zip p.tuned.values).countP fun x => x.1 != x.2))))

/-- What the values of every accepted plan satisfy: the checks 3 to 8 of R147 and R154 but for the codes, which `PlanJudged` states, among
them the 12-cavity limit of a group, the long-record areas and the addresses; and every tuning value in its range (R148). That
two long-record areas are apart is entry 18. -/
def Obligations.AcceptedPlanInRange : Prop :=
  ∀ (ws : List Word) (n base k : Nat) (pl : Plan), judgePlan ws n base = .ok (pl, k) →
    k ≤ 65535 ∧ pl.WindowsFit base ∧ pl.ChannelsFit ∧ pl.ProfilesFit ∧ pl.CavitiesFit ∧ pl.RingFits ∧ pl.AddressesFit base ∧
      100 ≤ pl.windowLimit ∧ pl.windowLimit ≤ 30000 ∧ 5 ≤ pl.silenceLimit ∧ pl.silenceLimit ≤ 1000 ∧
      pl.pulseW ≤ 255 ∧ pl.pulseP ≤ 3 ∧
      (∀ c ∈ pl.channels, 16 ≤ c.nmin ∧ c.nmin ≤ 65535 ∧ c.clipLimit ≤ 65535 ∧ 1 ≤ c.th ∧ c.th ≤ 32767 ∧ 1 ≤ c.hdt ∧
        c.hdt ≤ 4096 ∧ c.hlt ≤ 65535 ∧ 1 ≤ c.dmin ∧ c.dmin ≤ 4096) ∧
      ∀ q ∈ pl.profiles, q.xd ≤ 4095 ∧ 1 ≤ q.hitWeight ∧ q.hitWeight ≤ 15 ∧ 1 ≤ q.d ∧ q.d ≤ 8 ∧ 2 ≤ q.w ∧ q.w ≤ 8 ∧
        1 ≤ q.confirmations ∧ q.confirmations ≤ 7 ∧ 1 ≤ q.delay ∧ q.delay ≤ 7

/-- A plan that is judged and accepted: the start values of R149 in every block, the three head POSTs, RUNNING, PLAN
LOADED, and the completion of the RELOAD PLAN that began the load (R149, parts of R2, R20, R36, R98, R111, R114, R115,
R120 and R143). The mailbox returns to IDLE unless it holds a RELOAD PLAN TAKEN: a collection is dropped, a SET OVERLAY that
was handed over has its effect first, and a status still to be placed is placed as it then stands (both entry 21). RUNNING does
not wait for the head POSTs to be placed (entry 25). -/
def Obligations.PlanAccepted : Prop :=
  ∀ (s : State) (pl : Plan) (k n a : Nat) (q : List Entry), s.resetLow = false →
    s.path.queue = .fetch a .planLoader :: q → s.path.held = [] → s.loader.phase = .body n →
    s.loader.buf.length + 1 = n → judgePlan (s.loader.buf ++ [readWord s.mem a]) n s.base = .ok (pl, k) →
      let u := fun (ov : Bool) (mb : Mailbox) =>
        raiseNotice none { kind := .planLoaded, profile := none, subject := pl.serial, cycle := 0, detail := k }
        { s with
          path := { s.path with overlay := ov, queue := q, turn := 0 }
          loader :=
            { run := .running, plan := some pl, fault := .none, retry := none, phase := .idle, buf := [], items := [] }
          table := { s.table with contexts := pl.profiles.map freshContext }
          tracker :=
            { state := .noMould, active := none, last := none, openCycle := 0, lateStart := false,
              lastAbandoned := none, deferredOpen := false, limitTimer := none, unknownNote := none }
          asm := List.replicate 4 Assembler.start
          eval :=
            { accums := List.replicate 64 (Accum.cleared 0), busy := none, held := none, dump := s.eval.dump, frames := s.eval.frames }
          out := { s.out with stopLatch := false, stopHigh := some pl.stopHigh, marks := [] }
          report :=
            { published := List.replicate 61 0, building := List.replicate 61 0, producer := 0, consumer := 0, overflow := 0, seq := 0,
              ring := some { base := pl.ringBase, size := pl.ringSize, kindMask := pl.kindMask },
              items := s.report.items ++
                [.post (s.base + 0x40) 0 (some .mailbox), .post (s.base + 0x44) 0 (some .mailbox),
                 .post (s.base + 0x48) 0 (some .mailbox)] }
          mail := mb }
      let idle := { s.mail with state := MailState.idle, args := [], work := none }
      (s.mail.state ≠ .taken → s.mail.work = none → (∀ i ∈ s.mail.items, i.isDone = false) →
        EndsIn (exec .fetchPerformed s) (u s.path.overlay idle)) ∧
      (s.mail.state = .taken → s.mail.work = some { fn := .reloadPlan, args := [], phase := .loading } →
        EndsIn (exec .fetchPerformed s) ((u s.path.overlay s.mail).finished .reloadPlan [] .ok)) ∧
      (∀ w, s.mail.state = .taken → s.mail.work = some w → w.fn = .reloadPlan → w.phase ≠ .loading →
        EndsIn (exec .fetchPerformed s) (u s.path.overlay s.mail)) ∧
      (∀ x, s.mail.work = some { fn := .setOverlay, args := [x], phase := .handed } →
        (∀ i ∈ s.mail.items, i.isDone = false) →
          EndsIn (exec .fetchPerformed s)
            (u (x == 1) { idle with
              items := s.mail.items ++ [.finished (doneStatus s.mail .ok s.loader.fault) s.mail.serial .ok] })) ∧
      (∀ js r f, (∀ w, s.mail.work = some w → w.fn ≠ .reloadPlan ∧ w.phase = .done) → s.mail.items = js ++ [.done r f] →
        (∀ i ∈ js, i.isDone = false) →
          EndsIn (exec .fetchPerformed s)
            (u s.path.overlay { idle with items := js ++ [.finished (doneStatus s.mail r f) s.mail.serial r] }))

/-- A load that fails: with its fourth word a wrong identifier or format version gives ID, and a length outside 4..2048 gives
LENGTH, as does a length of 4, which holds no section; with its last word a plan fails with the reason of the first check that
it does not pass. The run state becomes NO PLAN, the reason is held, the retry timer starts, and a RELOAD PLAN completes with
PLAN REJECTED; a header that passes has the rest of the plan fetched (R146, parts of R145, R147, R151 and R154). -/
def Obligations.LoadProceeds : Prop :=
  ∀ (s : State) (a : Nat) (q : List Entry), s.resetLow = false → s.path.queue = .fetch a .planLoader :: q →
    s.path.held = [] →
      let t := s.setPath { s.path with queue := q, turn := 0 }
      let ws := s.loader.buf ++ [readWord s.mem a]
      let failed := fun f =>
        t.setLoader { s.loader with run := .noPlan, fault := f, retry := some 0, phase := .idle, buf := [], items := [] }
      let fails := fun f =>
        ((∀ w, s.mail.work = some w → w.phase ≠ .loading) → EndsIn (exec .fetchPerformed s) (failed f)) ∧
        (s.mail.work = some { fn := .reloadPlan, args := [], phase := .loading } →
          EndsIn (exec .fetchPerformed s) ((failed f).finished .reloadPlan [] .planRejected))
      (∀ w0 w1 w2 w3, s.loader.phase = .header → ws = [w0, w1, w2, w3] →
        ((w0 ≠ 0x474C4A50 ∨ w1.toNat % 65536 ≠ 1) → fails .id) ∧
        (w0 = 0x474C4A50 → w1.toNat % 65536 = 1 → (w2.toNat % 65536 ≤ 4 ∨ 2048 < w2.toNat % 65536) → fails .length) ∧
        (w0 = 0x474C4A50 → w1.toNat % 65536 = 1 → 4 < w2.toNat % 65536 → w2.toNat % 65536 ≤ 2048 →
          EndsIn (exec .fetchPerformed s)
            (t.setLoader { s.loader with
              phase := .body (w2.toNat % 65536), buf := ws
              items := s.loader.items ++ (List.range (w2.toNat % 65536 - 4)).map fun i =>
                .fetch (s.base + 0x410 + 4 * i) .planLoader }))) ∧
      (∀ n f, s.loader.phase = .body n → ws.length = n → judgePlan ws n s.base = .error f → fails f)

/-! ## The whole machine -/

/-- Every step keeps the bounds of the manual: memory in canonical form, at most 32 entries in the outbound queue, a turn
count of at most 4, at most 8 marks, four assemblers and 64 accumulator sets, and no POST in the queue that has lost all
four lanes (parts of R115, R116, R134, R135 and R138). -/
def Obligations.StepKeepsBounds : Prop :=
  ∀ s t : State, step s = .next t → s.Bounded → s.NoneOverwritten → t.Bounded ∧ t.NoneOverwritten

/-- Every step keeps the blocks' states consistent: a plan and its contexts exactly while RUNNING, an active profile that
has a context exactly outside NO MOULD, the window and silence timers only while OPEN, close processing exactly in
CLOSING, the retry timer only in NO PLAN, and both notice indices inside the ring of the held plan (parts of R10, R13, R30,
R51, R98, R99, R120, R129, R145 and R150). -/
def Obligations.StepKeepsConsistency : Prop :=
  ∀ s t : State, step s = .next t → s.Consistent → s.RingSound → t.Consistent ∧ t.RingSound

/-- Every step, whatever its command, keeps every context legal for its profile of the held plan: a bound slot and a confirm
count only in SUSPECT and CRACKED, bound and reported slots installed, score 0 in LEARNING and EXCLUDED, no blind EXCLUDED
cavity, every count and baseline in its range, and one offset in range for each channel of the profile (parts of R61, R97,
R107 and R109). Learning exponents, sums and a checked image stay such that no close and no commit can break it. -/
def Obligations.StepKeepsLegal : Prop :=
  ∀ s t : State, step s = .next t → s.LegalContexts → t.LegalContexts

/-- The state after reset satisfies the three invariants. -/
def Obligations.ResetSound : Prop :=
  State.reset.Bounded ∧ State.reset.NoneOverwritten ∧ State.reset.Consistent ∧ State.reset.RingSound ∧
    State.reset.LegalContexts

/-- Memory is changed by controller writes and by performed POSTs alone: every other command leaves every byte as it is, a
performed FETCH and an assertion of RESET with no entry on the port among them when no write is held there (parts of R131, R134
and R137; the held transactions are taken in that step by entry 8, and the operand of RESET_ASSERTED is entry 6). -/
def Obligations.MemoryChangedByPortOnly : Prop :=
  ∀ (c : Instr) (s t : State), exec c s = .next t →
    (∀ b, c ≠ .controllerWrite b ∧ c ≠ .pressStateWord b ∧ c ≠ .captureRingWrite b ∧ c ≠ .noticeConsumerWrite b ∧
      c ≠ .mailboxWordWrite b) →
    c ≠ .postPerformed → c ≠ .resetAsserted true →
    (c = .fetchPerformed ∨ c = .resetAsserted false → ∀ b, Txn.write b ∉ s.path.held) →
      ∀ y, readByte t.mem y = readByte s.mem y
end

