-- ==== Sys2Proof/Laws/Mailbox.lean ====
section
/-! SUPPORT. What the mailbox does with its statuses: when one is ready, and what an acceptance leaves of a request. -/

namespace Sys2Proof.Machine

/-- A DONE status alone waits for what the report writer has still to place (R93, R149). -/
theorem statusReady_cases (s : State) :
    (s.mail.items = [] ∧ statusReady s = false) ∨
      (∃ r f js, s.mail.items = .done r f :: js ∧ statusReady s = !gated .mailbox s) ∨
      (∃ i js, s.mail.items = i :: js ∧ (∀ r f, i ≠ .done r f) ∧ statusReady s = true) := by
  unfold statusReady
  match s.mail.items with
  | [] => exact .inl ⟨rfl, rfl⟩
  | .taken w :: js => exact .inr (.inr ⟨_, js, rfl, nofun, rfl⟩)
  | .finished w n r :: js => exact .inr (.inr ⟨_, js, rfl, nofun, rfl⟩)
  | .done r f :: js => exact .inr (.inl ⟨r, f, js, rfl, rfl⟩)

/-- A request other than a SET OVERLAY handed over is left as it is before an acceptance (R133, entry 21). -/
theorem carryOverlay_cases (s : State) :
    carryOverlay s = s ∨
      ∃ w, s.mail.work = some w ∧ w.fn = .setOverlay ∧ w.phase = .handed ∧ carryOverlay s = doOverlay s := by
  unfold carryOverlay
  match h : s.mail.work with
  | none => exact .inl rfl
  | some w =>
    by_cases hw : w.fn = .setOverlay ∧ w.phase = .handed
    · exact .inr ⟨w, rfl, hw.1, hw.2, if_pos hw⟩
    · exact .inl (if_neg hw)

/-- A RELOAD PLAN that is TAKEN is kept at an acceptance (R149). -/
theorem Mailbox.afterLoad_keeps {m : Mailbox} {w : Work} (hs : m.state = .taken) (hw : m.work = some w)
    (hf : w.fn = .reloadPlan) : m.afterLoad = m := by
  have : m.holdsReload = true := by simp [Mailbox.holdsReload, hs, hw, hf]
  simp [Mailbox.afterLoad, this]

/-- Any other mailbox returns to IDLE and keeps its serial (R143, R149). -/
theorem Mailbox.afterLoad_idles {m : Mailbox} (h : m.state ≠ .taken ∨ ∀ w, m.work = some w → w.fn ≠ .reloadPlan) :
    m.afterLoad.state = .idle ∧ m.afterLoad.work = none ∧ m.afterLoad.args = [] ∧ m.afterLoad.serial = m.serial ∧
      m.afterLoad.items = m.items.map (MailItem.freeze m) := by
  have : m.holdsReload = false := by
    unfold Mailbox.holdsReload
    rcases h with h | h
    · simp [h]
    · match hw : m.work with
      | none => simp
      | some w => simp [h w hw]
  simp [Mailbox.afterLoad, this]

end Sys2Proof.Machine
end

