-- ==== Sys2Proof/Laws/Memory.lean ====
section
/-! SUPPORT. Laws of memory: every write keeps the canonical form, a read after a write gives the value written, and a
write leaves every other byte alone. -/

namespace Sys2Proof.Machine

theorem wfFrom_mono {lo lo' : Nat} {m : List Host.Cell} (h : wfFrom lo m = true) (hl : lo' ≤ lo) : wfFrom lo' m = true := by
  cases m with
  | nil => rfl
  | cons c m =>
    obtain ⟨a, b⟩ := c
    simp only [wfFrom, Bool.and_eq_true, decide_eq_true_eq] at h ⊢
    exact ⟨⟨by omega, h.1.2⟩, h.2⟩

theorem wfFrom_consByte {lo x : Nat} {v : Byte} {m : List Host.Cell} (h : wfFrom (x + 1) m = true) (hx : lo ≤ x) :
    wfFrom lo (consByte x v m) = true := by
  unfold consByte
  split
  · exact wfFrom_mono h (by omega)
  · simp [wfFrom, *]

theorem wfFrom_writeByte {lo x : Nat} {v : Byte} {m : List Host.Cell} (h : wfFrom lo m = true) (hx : lo ≤ x) :
    wfFrom lo (writeByte m x v) = true := by
  induction m generalizing lo with
  | nil => exact wfFrom_consByte rfl hx
  | cons c m ih =>
    obtain ⟨a, b⟩ := c
    have h' := h
    simp only [wfFrom, Bool.and_eq_true, decide_eq_true_eq] at h'
    unfold writeByte
    split
    · exact wfFrom_consByte (by simp only [wfFrom, Bool.and_eq_true, decide_eq_true_eq]; exact ⟨⟨by omega, h'.1.2⟩, h'.2⟩) hx
    · split
      · subst x; exact wfFrom_consByte h'.2 hx
      · simp only [wfFrom, Bool.and_eq_true, decide_eq_true_eq]
        exact ⟨h'.1, ih h'.2 (by omega)⟩

/-- Writing one byte keeps the canonical form. -/
theorem memWf_writeByte {m : List Host.Cell} {x : Nat} {v : Byte} (h : memWf m = true) : memWf (writeByte m x v) = true :=
  wfFrom_writeByte h (Nat.zero_le _)

theorem readByte_below {lo x : Nat} {m : List Host.Cell} (h : wfFrom lo m = true) (hx : x < lo) :
    readByte m x = Config.unwritten := by
  induction m generalizing lo with
  | nil => rfl
  | cons c m ih =>
    obtain ⟨a, b⟩ := c
    simp only [wfFrom, Bool.and_eq_true, decide_eq_true_eq] at h
    unfold readByte
    rw [if_neg (by omega), ih h.2 (by omega)]

theorem readByte_consByte {x y : Nat} {v : Byte} {m : List Host.Cell} (h : wfFrom (x + 1) m = true) :
    readByte (consByte x v m) y = if x = y then v else readByte m y := by
  unfold consByte
  split
  · split
    · subst y; rw [readByte_below h (by omega)]; exact Eq.symm ‹_›
    · rfl
  · rfl

theorem readByte_writeByte_from {lo x y : Nat} {v : Byte} {m : List Host.Cell} (h : wfFrom lo m = true) :
    readByte (writeByte m x v) y = if x = y then v else readByte m y := by
  induction m generalizing lo with
  | nil => exact readByte_consByte rfl
  | cons c m ih =>
    obtain ⟨a, b⟩ := c
    have h' := h
    simp only [wfFrom, Bool.and_eq_true, decide_eq_true_eq] at h'
    unfold writeByte
    split
    · exact readByte_consByte (by simp only [wfFrom, Bool.and_eq_true, decide_eq_true_eq]; exact ⟨⟨by omega, h'.1.2⟩, h'.2⟩)
    · split
      · subst x
        rw [readByte_consByte h'.2]
        show _ = if _ then _ else if _ then _ else _
        split <;> rfl
      · show (if a = y then b else _) = if x = y then v else if a = y then b else _
        rw [ih h'.2]
        split
        · rw [if_neg (by omega)]
        · rfl

/-- What a byte reads after one byte has been written. -/
theorem readByte_writeByte {x y : Nat} {v : Byte} {m : List Host.Cell} (h : memWf m = true) :
    readByte (writeByte m x v) y = if x = y then v else readByte m y := readByte_writeByte_from h

theorem memWf_writeLane {m : List Host.Cell} {a : Nat} {w : Word} {l : Lanes} {k : Nat} (h : memWf m = true) :
    memWf (writeLane m a w l k) = true := by
  unfold writeLane
  split
  · exact memWf_writeByte h
  · exact h

/-- Writing lanes of a word keeps the canonical form. -/
theorem memWf_writeLanes {m : List Host.Cell} {a : Nat} {w : Word} {l : Lanes} (h : memWf m = true) :
    memWf (writeLanes m a w l) = true :=
  memWf_writeLane (memWf_writeLane (memWf_writeLane (memWf_writeLane h)))

/-- Writing a word keeps the canonical form. -/
theorem memWf_writeWord {m : List Host.Cell} {a : Nat} {w : Word} (h : memWf m = true) : memWf (writeWord m a w) = true :=
  memWf_writeLanes h

theorem readByte_writeLane {m : List Host.Cell} {a : Nat} {w : Word} {l : Lanes} {k y : Nat} (h : memWf m = true) :
    readByte (writeLane m a w l k) y = if a + k = y ∧ l.getLsbD k = true then laneOf w k else readByte m y := by
  unfold writeLane
  split
  · rw [readByte_writeByte h]; simp [*]
  · simp [*]

/-- What a byte reads after lanes of the word at `a` have been written: lane `k` is byte `a + k`. -/
theorem readByte_writeLanes {m : List Host.Cell} {a : Nat} {w : Word} {l : Lanes} {y : Nat} (h : memWf m = true) :
    readByte (writeLanes m a w l) y
      = if a ≤ y ∧ y < a + 4 ∧ l.getLsbD (y - a) = true then laneOf w (y - a) else readByte m y := by
  have h0 := memWf_writeLane (a := a) (w := w) (l := l) (k := 0) h
  have h1 := memWf_writeLane (a := a) (w := w) (l := l) (k := 1) h0
  have h2 := memWf_writeLane (a := a) (w := w) (l := l) (k := 2) h1
  unfold writeLanes
  rw [readByte_writeLane h2, readByte_writeLane h1, readByte_writeLane h0, readByte_writeLane h]
  by_cases hy : a ≤ y ∧ y < a + 4
  · obtain ⟨k, hk, rfl⟩ : ∃ k, k < 4 ∧ y = a + k := ⟨y - a, by omega, by omega⟩
    have hs : a + k - a = k := by omega
    rw [hs]
    obtain rfl | rfl | rfl | rfl : k = 0 ∨ k = 1 ∨ k = 2 ∨ k = 3 := by omega
    all_goals simp
  · rw [if_neg (fun x => hy ⟨by omega, by omega⟩), if_neg (fun x => hy ⟨by omega, by omega⟩),
      if_neg (fun x => hy ⟨by omega, by omega⟩), if_neg (fun x => hy ⟨by omega, by omega⟩),
      if_neg (fun x => hy ⟨x.1, x.2.1⟩)]

/-- A byte outside the word is untouched by a write of its lanes. -/
theorem readByte_writeLanes_outside {m : List Host.Cell} {a : Nat} {w : Word} {l : Lanes} {y : Nat} (h : memWf m = true)
    (hy : y < a ∨ a + 4 ≤ y) : readByte (writeLanes m a w l) y = readByte m y := by
  rw [readByte_writeLanes h, if_neg (by omega)]

/-- A full-word write is read back. -/
theorem readWord_writeWord {m : List Host.Cell} {a : Nat} {w : Word} (h : memWf m = true) :
    readWord (writeWord m a w) a = w := by
  have e : ∀ k, k < 4 → readByte (writeWord m a w) (a + k) = laneOf w k := fun k hk => by
    have hl : BitVec.getLsbD (15 : Lanes) k = true := by
      obtain rfl | rfl | rfl | rfl : k = 0 ∨ k = 1 ∨ k = 2 ∨ k = 3 := by omega
      all_goals rfl
    have hs : a + k - a = k := by omega
    rw [writeWord, readByte_writeLanes h, hs, if_pos ⟨by omega, by omega, hl⟩]
  have e0 := e 0 (by omega)
  rw [Nat.add_zero] at e0
  unfold readWord
  rw [e 3 (by omega), e 2 (by omega), e 1 (by omega), e0]
  unfold laneOf
  refine BitVec.eq_of_getLsbD_eq fun i hi => ?_
  simp only [BitVec.getLsbD_append, BitVec.getLsbD_extractLsb']
  obtain h8 | h8 := Nat.lt_or_ge i 8
  · simp [h8]
  · obtain h16 | h16 := Nat.lt_or_ge i 16
    · simp [show ¬ i < 8 by omega, show i - 8 < 8 by omega, show 8 + (i - 8) = i by omega]
    · obtain h24 | h24 := Nat.lt_or_ge i 24
      · simp [show ¬ i < 8 by omega, show ¬ i - 8 < 8 by omega, show i - 8 - 8 < 8 by omega,
          show 16 + (i - 8 - 8) = i by omega]
      · simp [show ¬ i < 8 by omega, show ¬ i - 8 < 8 by omega, show ¬ i - 8 - 8 < 8 by omega,
          show i - 8 - 8 - 8 < 8 by omega, show 24 + (i - 8 - 8 - 8) = i by omega]

/-- A full-word write leaves a word that it does not touch alone. -/
theorem readWord_writeWord_apart {m : List Host.Cell} {a x : Nat} {w : Word} (h : memWf m = true)
    (hx : x + 4 ≤ a ∨ a + 4 ≤ x) : readWord (writeWord m a w) x = readWord m x := by
  unfold readWord writeWord
  rw [readByte_writeLanes_outside h (by omega), readByte_writeLanes_outside h (by omega),
    readByte_writeLanes_outside h (by omega), readByte_writeLanes_outside h (by omega)]

end Sys2Proof.Machine
end

