-- ==== Sys2Proof/Laws/State.lean ====
section
/-! SUPPORT. One lemma per field per update of the state, all true by definition. -/

namespace Sys2Proof.Machine

@[simp] theorem State.setMem_mem (s : State) (v : List Host.Cell) : (s.setMem v).mem = v := rfl
@[simp] theorem State.setMem_resetLow (s : State) (v : List Host.Cell) : (s.setMem v).resetLow = s.resetLow := rfl
@[simp] theorem State.setMem_anchor (s : State) (v : List Host.Cell) : (s.setMem v).anchor = s.anchor := rfl
@[simp] theorem State.setMem_path (s : State) (v : List Host.Cell) : (s.setMem v).path = s.path := rfl
@[simp] theorem State.setMem_loader (s : State) (v : List Host.Cell) : (s.setMem v).loader = s.loader := rfl
@[simp] theorem State.setMem_tracker (s : State) (v : List Host.Cell) : (s.setMem v).tracker = s.tracker := rfl
@[simp] theorem State.setMem_closing (s : State) (v : List Host.Cell) : (s.setMem v).closing = s.closing := rfl
@[simp] theorem State.setMem_asm (s : State) (v : List Host.Cell) : (s.setMem v).asm = s.asm := rfl
@[simp] theorem State.setMem_eval (s : State) (v : List Host.Cell) : (s.setMem v).eval = s.eval := rfl
@[simp] theorem State.setMem_table (s : State) (v : List Host.Cell) : (s.setMem v).table = s.table := rfl
@[simp] theorem State.setMem_out (s : State) (v : List Host.Cell) : (s.setMem v).out = s.out := rfl
@[simp] theorem State.setMem_report (s : State) (v : List Host.Cell) : (s.setMem v).report = s.report := rfl
@[simp] theorem State.setMem_mail (s : State) (v : List Host.Cell) : (s.setMem v).mail = s.mail := rfl
@[simp] theorem State.setMem_pending (s : State) (v : List Host.Cell) : (s.setMem v).pending = s.pending := rfl

@[simp] theorem State.setResetLow_mem (s : State) (v : Bool) : (s.setResetLow v).mem = s.mem := rfl
@[simp] theorem State.setResetLow_resetLow (s : State) (v : Bool) : (s.setResetLow v).resetLow = v := rfl
@[simp] theorem State.setResetLow_anchor (s : State) (v : Bool) : (s.setResetLow v).anchor = s.anchor := rfl
@[simp] theorem State.setResetLow_path (s : State) (v : Bool) : (s.setResetLow v).path = s.path := rfl
@[simp] theorem State.setResetLow_loader (s : State) (v : Bool) : (s.setResetLow v).loader = s.loader := rfl
@[simp] theorem State.setResetLow_tracker (s : State) (v : Bool) : (s.setResetLow v).tracker = s.tracker := rfl
@[simp] theorem State.setResetLow_closing (s : State) (v : Bool) : (s.setResetLow v).closing = s.closing := rfl
@[simp] theorem State.setResetLow_asm (s : State) (v : Bool) : (s.setResetLow v).asm = s.asm := rfl
@[simp] theorem State.setResetLow_eval (s : State) (v : Bool) : (s.setResetLow v).eval = s.eval := rfl
@[simp] theorem State.setResetLow_table (s : State) (v : Bool) : (s.setResetLow v).table = s.table := rfl
@[simp] theorem State.setResetLow_out (s : State) (v : Bool) : (s.setResetLow v).out = s.out := rfl
@[simp] theorem State.setResetLow_report (s : State) (v : Bool) : (s.setResetLow v).report = s.report := rfl
@[simp] theorem State.setResetLow_mail (s : State) (v : Bool) : (s.setResetLow v).mail = s.mail := rfl
@[simp] theorem State.setResetLow_pending (s : State) (v : Bool) : (s.setResetLow v).pending = s.pending := rfl

@[simp] theorem State.setAnchor_mem (s : State) (v : BitVec 2) : (s.setAnchor v).mem = s.mem := rfl
@[simp] theorem State.setAnchor_resetLow (s : State) (v : BitVec 2) : (s.setAnchor v).resetLow = s.resetLow := rfl
@[simp] theorem State.setAnchor_anchor (s : State) (v : BitVec 2) : (s.setAnchor v).anchor = v := rfl
@[simp] theorem State.setAnchor_path (s : State) (v : BitVec 2) : (s.setAnchor v).path = s.path := rfl
@[simp] theorem State.setAnchor_loader (s : State) (v : BitVec 2) : (s.setAnchor v).loader = s.loader := rfl
@[simp] theorem State.setAnchor_tracker (s : State) (v : BitVec 2) : (s.setAnchor v).tracker = s.tracker := rfl
@[simp] theorem State.setAnchor_closing (s : State) (v : BitVec 2) : (s.setAnchor v).closing = s.closing := rfl
@[simp] theorem State.setAnchor_asm (s : State) (v : BitVec 2) : (s.setAnchor v).asm = s.asm := rfl
@[simp] theorem State.setAnchor_eval (s : State) (v : BitVec 2) : (s.setAnchor v).eval = s.eval := rfl
@[simp] theorem State.setAnchor_table (s : State) (v : BitVec 2) : (s.setAnchor v).table = s.table := rfl
@[simp] theorem State.setAnchor_out (s : State) (v : BitVec 2) : (s.setAnchor v).out = s.out := rfl
@[simp] theorem State.setAnchor_report (s : State) (v : BitVec 2) : (s.setAnchor v).report = s.report := rfl
@[simp] theorem State.setAnchor_mail (s : State) (v : BitVec 2) : (s.setAnchor v).mail = s.mail := rfl
@[simp] theorem State.setAnchor_pending (s : State) (v : BitVec 2) : (s.setAnchor v).pending = s.pending := rfl

@[simp] theorem State.setPath_mem (s : State) (v : MemoryPath) : (s.setPath v).mem = s.mem := rfl
@[simp] theorem State.setPath_resetLow (s : State) (v : MemoryPath) : (s.setPath v).resetLow = s.resetLow := rfl
@[simp] theorem State.setPath_anchor (s : State) (v : MemoryPath) : (s.setPath v).anchor = s.anchor := rfl
@[simp] theorem State.setPath_path (s : State) (v : MemoryPath) : (s.setPath v).path = v := rfl
@[simp] theorem State.setPath_loader (s : State) (v : MemoryPath) : (s.setPath v).loader = s.loader := rfl
@[simp] theorem State.setPath_tracker (s : State) (v : MemoryPath) : (s.setPath v).tracker = s.tracker := rfl
@[simp] theorem State.setPath_closing (s : State) (v : MemoryPath) : (s.setPath v).closing = s.closing := rfl
@[simp] theorem State.setPath_asm (s : State) (v : MemoryPath) : (s.setPath v).asm = s.asm := rfl
@[simp] theorem State.setPath_eval (s : State) (v : MemoryPath) : (s.setPath v).eval = s.eval := rfl
@[simp] theorem State.setPath_table (s : State) (v : MemoryPath) : (s.setPath v).table = s.table := rfl
@[simp] theorem State.setPath_out (s : State) (v : MemoryPath) : (s.setPath v).out = s.out := rfl
@[simp] theorem State.setPath_report (s : State) (v : MemoryPath) : (s.setPath v).report = s.report := rfl
@[simp] theorem State.setPath_mail (s : State) (v : MemoryPath) : (s.setPath v).mail = s.mail := rfl
@[simp] theorem State.setPath_pending (s : State) (v : MemoryPath) : (s.setPath v).pending = s.pending := rfl

@[simp] theorem State.setLoader_mem (s : State) (v : Loader) : (s.setLoader v).mem = s.mem := rfl
@[simp] theorem State.setLoader_resetLow (s : State) (v : Loader) : (s.setLoader v).resetLow = s.resetLow := rfl
@[simp] theorem State.setLoader_anchor (s : State) (v : Loader) : (s.setLoader v).anchor = s.anchor := rfl
@[simp] theorem State.setLoader_path (s : State) (v : Loader) : (s.setLoader v).path = s.path := rfl
@[simp] theorem State.setLoader_loader (s : State) (v : Loader) : (s.setLoader v).loader = v := rfl
@[simp] theorem State.setLoader_tracker (s : State) (v : Loader) : (s.setLoader v).tracker = s.tracker := rfl
@[simp] theorem State.setLoader_closing (s : State) (v : Loader) : (s.setLoader v).closing = s.closing := rfl
@[simp] theorem State.setLoader_asm (s : State) (v : Loader) : (s.setLoader v).asm = s.asm := rfl
@[simp] theorem State.setLoader_eval (s : State) (v : Loader) : (s.setLoader v).eval = s.eval := rfl
@[simp] theorem State.setLoader_table (s : State) (v : Loader) : (s.setLoader v).table = s.table := rfl
@[simp] theorem State.setLoader_out (s : State) (v : Loader) : (s.setLoader v).out = s.out := rfl
@[simp] theorem State.setLoader_report (s : State) (v : Loader) : (s.setLoader v).report = s.report := rfl
@[simp] theorem State.setLoader_mail (s : State) (v : Loader) : (s.setLoader v).mail = s.mail := rfl
@[simp] theorem State.setLoader_pending (s : State) (v : Loader) : (s.setLoader v).pending = s.pending := rfl

@[simp] theorem State.setTracker_mem (s : State) (v : Tracker) : (s.setTracker v).mem = s.mem := rfl
@[simp] theorem State.setTracker_resetLow (s : State) (v : Tracker) : (s.setTracker v).resetLow = s.resetLow := rfl
@[simp] theorem State.setTracker_anchor (s : State) (v : Tracker) : (s.setTracker v).anchor = s.anchor := rfl
@[simp] theorem State.setTracker_path (s : State) (v : Tracker) : (s.setTracker v).path = s.path := rfl
@[simp] theorem State.setTracker_loader (s : State) (v : Tracker) : (s.setTracker v).loader = s.loader := rfl
@[simp] theorem State.setTracker_tracker (s : State) (v : Tracker) : (s.setTracker v).tracker = v := rfl
@[simp] theorem State.setTracker_closing (s : State) (v : Tracker) : (s.setTracker v).closing = s.closing := rfl
@[simp] theorem State.setTracker_asm (s : State) (v : Tracker) : (s.setTracker v).asm = s.asm := rfl
@[simp] theorem State.setTracker_eval (s : State) (v : Tracker) : (s.setTracker v).eval = s.eval := rfl
@[simp] theorem State.setTracker_table (s : State) (v : Tracker) : (s.setTracker v).table = s.table := rfl
@[simp] theorem State.setTracker_out (s : State) (v : Tracker) : (s.setTracker v).out = s.out := rfl
@[simp] theorem State.setTracker_report (s : State) (v : Tracker) : (s.setTracker v).report = s.report := rfl
@[simp] theorem State.setTracker_mail (s : State) (v : Tracker) : (s.setTracker v).mail = s.mail := rfl
@[simp] theorem State.setTracker_pending (s : State) (v : Tracker) : (s.setTracker v).pending = s.pending := rfl

@[simp] theorem State.setClosing_mem (s : State) (v : Closing) : (s.setClosing v).mem = s.mem := rfl
@[simp] theorem State.setClosing_resetLow (s : State) (v : Closing) : (s.setClosing v).resetLow = s.resetLow := rfl
@[simp] theorem State.setClosing_anchor (s : State) (v : Closing) : (s.setClosing v).anchor = s.anchor := rfl
@[simp] theorem State.setClosing_path (s : State) (v : Closing) : (s.setClosing v).path = s.path := rfl
@[simp] theorem State.setClosing_loader (s : State) (v : Closing) : (s.setClosing v).loader = s.loader := rfl
@[simp] theorem State.setClosing_tracker (s : State) (v : Closing) : (s.setClosing v).tracker = s.tracker := rfl
@[simp] theorem State.setClosing_closing (s : State) (v : Closing) : (s.setClosing v).closing = v := rfl
@[simp] theorem State.setClosing_asm (s : State) (v : Closing) : (s.setClosing v).asm = s.asm := rfl
@[simp] theorem State.setClosing_eval (s : State) (v : Closing) : (s.setClosing v).eval = s.eval := rfl
@[simp] theorem State.setClosing_table (s : State) (v : Closing) : (s.setClosing v).table = s.table := rfl
@[simp] theorem State.setClosing_out (s : State) (v : Closing) : (s.setClosing v).out = s.out := rfl
@[simp] theorem State.setClosing_report (s : State) (v : Closing) : (s.setClosing v).report = s.report := rfl
@[simp] theorem State.setClosing_mail (s : State) (v : Closing) : (s.setClosing v).mail = s.mail := rfl
@[simp] theorem State.setClosing_pending (s : State) (v : Closing) : (s.setClosing v).pending = s.pending := rfl

@[simp] theorem State.setAsm_mem (s : State) (v : List Assembler) : (s.setAsm v).mem = s.mem := rfl
@[simp] theorem State.setAsm_resetLow (s : State) (v : List Assembler) : (s.setAsm v).resetLow = s.resetLow := rfl
@[simp] theorem State.setAsm_anchor (s : State) (v : List Assembler) : (s.setAsm v).anchor = s.anchor := rfl
@[simp] theorem State.setAsm_path (s : State) (v : List Assembler) : (s.setAsm v).path = s.path := rfl
@[simp] theorem State.setAsm_loader (s : State) (v : List Assembler) : (s.setAsm v).loader = s.loader := rfl
@[simp] theorem State.setAsm_tracker (s : State) (v : List Assembler) : (s.setAsm v).tracker = s.tracker := rfl
@[simp] theorem State.setAsm_closing (s : State) (v : List Assembler) : (s.setAsm v).closing = s.closing := rfl
@[simp] theorem State.setAsm_asm (s : State) (v : List Assembler) : (s.setAsm v).asm = v := rfl
@[simp] theorem State.setAsm_eval (s : State) (v : List Assembler) : (s.setAsm v).eval = s.eval := rfl
@[simp] theorem State.setAsm_table (s : State) (v : List Assembler) : (s.setAsm v).table = s.table := rfl
@[simp] theorem State.setAsm_out (s : State) (v : List Assembler) : (s.setAsm v).out = s.out := rfl
@[simp] theorem State.setAsm_report (s : State) (v : List Assembler) : (s.setAsm v).report = s.report := rfl
@[simp] theorem State.setAsm_mail (s : State) (v : List Assembler) : (s.setAsm v).mail = s.mail := rfl
@[simp] theorem State.setAsm_pending (s : State) (v : List Assembler) : (s.setAsm v).pending = s.pending := rfl

@[simp] theorem State.setEval_mem (s : State) (v : Evaluator) : (s.setEval v).mem = s.mem := rfl
@[simp] theorem State.setEval_resetLow (s : State) (v : Evaluator) : (s.setEval v).resetLow = s.resetLow := rfl
@[simp] theorem State.setEval_anchor (s : State) (v : Evaluator) : (s.setEval v).anchor = s.anchor := rfl
@[simp] theorem State.setEval_path (s : State) (v : Evaluator) : (s.setEval v).path = s.path := rfl
@[simp] theorem State.setEval_loader (s : State) (v : Evaluator) : (s.setEval v).loader = s.loader := rfl
@[simp] theorem State.setEval_tracker (s : State) (v : Evaluator) : (s.setEval v).tracker = s.tracker := rfl
@[simp] theorem State.setEval_closing (s : State) (v : Evaluator) : (s.setEval v).closing = s.closing := rfl
@[simp] theorem State.setEval_asm (s : State) (v : Evaluator) : (s.setEval v).asm = s.asm := rfl
@[simp] theorem State.setEval_eval (s : State) (v : Evaluator) : (s.setEval v).eval = v := rfl
@[simp] theorem State.setEval_table (s : State) (v : Evaluator) : (s.setEval v).table = s.table := rfl
@[simp] theorem State.setEval_out (s : State) (v : Evaluator) : (s.setEval v).out = s.out := rfl
@[simp] theorem State.setEval_report (s : State) (v : Evaluator) : (s.setEval v).report = s.report := rfl
@[simp] theorem State.setEval_mail (s : State) (v : Evaluator) : (s.setEval v).mail = s.mail := rfl
@[simp] theorem State.setEval_pending (s : State) (v : Evaluator) : (s.setEval v).pending = s.pending := rfl

@[simp] theorem State.setTable_mem (s : State) (v : ContextTable) : (s.setTable v).mem = s.mem := rfl
@[simp] theorem State.setTable_resetLow (s : State) (v : ContextTable) : (s.setTable v).resetLow = s.resetLow := rfl
@[simp] theorem State.setTable_anchor (s : State) (v : ContextTable) : (s.setTable v).anchor = s.anchor := rfl
@[simp] theorem State.setTable_path (s : State) (v : ContextTable) : (s.setTable v).path = s.path := rfl
@[simp] theorem State.setTable_loader (s : State) (v : ContextTable) : (s.setTable v).loader = s.loader := rfl
@[simp] theorem State.setTable_tracker (s : State) (v : ContextTable) : (s.setTable v).tracker = s.tracker := rfl
@[simp] theorem State.setTable_closing (s : State) (v : ContextTable) : (s.setTable v).closing = s.closing := rfl
@[simp] theorem State.setTable_asm (s : State) (v : ContextTable) : (s.setTable v).asm = s.asm := rfl
@[simp] theorem State.setTable_eval (s : State) (v : ContextTable) : (s.setTable v).eval = s.eval := rfl
@[simp] theorem State.setTable_table (s : State) (v : ContextTable) : (s.setTable v).table = v := rfl
@[simp] theorem State.setTable_out (s : State) (v : ContextTable) : (s.setTable v).out = s.out := rfl
@[simp] theorem State.setTable_report (s : State) (v : ContextTable) : (s.setTable v).report = s.report := rfl
@[simp] theorem State.setTable_mail (s : State) (v : ContextTable) : (s.setTable v).mail = s.mail := rfl
@[simp] theorem State.setTable_pending (s : State) (v : ContextTable) : (s.setTable v).pending = s.pending := rfl

@[simp] theorem State.setOut_mem (s : State) (v : Outputs) : (s.setOut v).mem = s.mem := rfl
@[simp] theorem State.setOut_resetLow (s : State) (v : Outputs) : (s.setOut v).resetLow = s.resetLow := rfl
@[simp] theorem State.setOut_anchor (s : State) (v : Outputs) : (s.setOut v).anchor = s.anchor := rfl
@[simp] theorem State.setOut_path (s : State) (v : Outputs) : (s.setOut v).path = s.path := rfl
@[simp] theorem State.setOut_loader (s : State) (v : Outputs) : (s.setOut v).loader = s.loader := rfl
@[simp] theorem State.setOut_tracker (s : State) (v : Outputs) : (s.setOut v).tracker = s.tracker := rfl
@[simp] theorem State.setOut_closing (s : State) (v : Outputs) : (s.setOut v).closing = s.closing := rfl
@[simp] theorem State.setOut_asm (s : State) (v : Outputs) : (s.setOut v).asm = s.asm := rfl
@[simp] theorem State.setOut_eval (s : State) (v : Outputs) : (s.setOut v).eval = s.eval := rfl
@[simp] theorem State.setOut_table (s : State) (v : Outputs) : (s.setOut v).table = s.table := rfl
@[simp] theorem State.setOut_out (s : State) (v : Outputs) : (s.setOut v).out = v := rfl
@[simp] theorem State.setOut_report (s : State) (v : Outputs) : (s.setOut v).report = s.report := rfl
@[simp] theorem State.setOut_mail (s : State) (v : Outputs) : (s.setOut v).mail = s.mail := rfl
@[simp] theorem State.setOut_pending (s : State) (v : Outputs) : (s.setOut v).pending = s.pending := rfl

@[simp] theorem State.setReport_mem (s : State) (v : Report) : (s.setReport v).mem = s.mem := rfl
@[simp] theorem State.setReport_resetLow (s : State) (v : Report) : (s.setReport v).resetLow = s.resetLow := rfl
@[simp] theorem State.setReport_anchor (s : State) (v : Report) : (s.setReport v).anchor = s.anchor := rfl
@[simp] theorem State.setReport_path (s : State) (v : Report) : (s.setReport v).path = s.path := rfl
@[simp] theorem State.setReport_loader (s : State) (v : Report) : (s.setReport v).loader = s.loader := rfl
@[simp] theorem State.setReport_tracker (s : State) (v : Report) : (s.setReport v).tracker = s.tracker := rfl
@[simp] theorem State.setReport_closing (s : State) (v : Report) : (s.setReport v).closing = s.closing := rfl
@[simp] theorem State.setReport_asm (s : State) (v : Report) : (s.setReport v).asm = s.asm := rfl
@[simp] theorem State.setReport_eval (s : State) (v : Report) : (s.setReport v).eval = s.eval := rfl
@[simp] theorem State.setReport_table (s : State) (v : Report) : (s.setReport v).table = s.table := rfl
@[simp] theorem State.setReport_out (s : State) (v : Report) : (s.setReport v).out = s.out := rfl
@[simp] theorem State.setReport_report (s : State) (v : Report) : (s.setReport v).report = v := rfl
@[simp] theorem State.setReport_mail (s : State) (v : Report) : (s.setReport v).mail = s.mail := rfl
@[simp] theorem State.setReport_pending (s : State) (v : Report) : (s.setReport v).pending = s.pending := rfl

@[simp] theorem State.setMail_mem (s : State) (v : Mailbox) : (s.setMail v).mem = s.mem := rfl
@[simp] theorem State.setMail_resetLow (s : State) (v : Mailbox) : (s.setMail v).resetLow = s.resetLow := rfl
@[simp] theorem State.setMail_anchor (s : State) (v : Mailbox) : (s.setMail v).anchor = s.anchor := rfl
@[simp] theorem State.setMail_path (s : State) (v : Mailbox) : (s.setMail v).path = s.path := rfl
@[simp] theorem State.setMail_loader (s : State) (v : Mailbox) : (s.setMail v).loader = s.loader := rfl
@[simp] theorem State.setMail_tracker (s : State) (v : Mailbox) : (s.setMail v).tracker = s.tracker := rfl
@[simp] theorem State.setMail_closing (s : State) (v : Mailbox) : (s.setMail v).closing = s.closing := rfl
@[simp] theorem State.setMail_asm (s : State) (v : Mailbox) : (s.setMail v).asm = s.asm := rfl
@[simp] theorem State.setMail_eval (s : State) (v : Mailbox) : (s.setMail v).eval = s.eval := rfl
@[simp] theorem State.setMail_table (s : State) (v : Mailbox) : (s.setMail v).table = s.table := rfl
@[simp] theorem State.setMail_out (s : State) (v : Mailbox) : (s.setMail v).out = s.out := rfl
@[simp] theorem State.setMail_report (s : State) (v : Mailbox) : (s.setMail v).report = s.report := rfl
@[simp] theorem State.setMail_mail (s : State) (v : Mailbox) : (s.setMail v).mail = v := rfl
@[simp] theorem State.setMail_pending (s : State) (v : Mailbox) : (s.setMail v).pending = s.pending := rfl

@[simp] theorem State.setPending_mem (s : State) (v : List Instr) : (s.setPending v).mem = s.mem := rfl
@[simp] theorem State.setPending_resetLow (s : State) (v : List Instr) : (s.setPending v).resetLow = s.resetLow := rfl
@[simp] theorem State.setPending_anchor (s : State) (v : List Instr) : (s.setPending v).anchor = s.anchor := rfl
@[simp] theorem State.setPending_path (s : State) (v : List Instr) : (s.setPending v).path = s.path := rfl
@[simp] theorem State.setPending_loader (s : State) (v : List Instr) : (s.setPending v).loader = s.loader := rfl
@[simp] theorem State.setPending_tracker (s : State) (v : List Instr) : (s.setPending v).tracker = s.tracker := rfl
@[simp] theorem State.setPending_closing (s : State) (v : List Instr) : (s.setPending v).closing = s.closing := rfl
@[simp] theorem State.setPending_asm (s : State) (v : List Instr) : (s.setPending v).asm = s.asm := rfl
@[simp] theorem State.setPending_eval (s : State) (v : List Instr) : (s.setPending v).eval = s.eval := rfl
@[simp] theorem State.setPending_table (s : State) (v : List Instr) : (s.setPending v).table = s.table := rfl
@[simp] theorem State.setPending_out (s : State) (v : List Instr) : (s.setPending v).out = s.out := rfl
@[simp] theorem State.setPending_report (s : State) (v : List Instr) : (s.setPending v).report = s.report := rfl
@[simp] theorem State.setPending_mail (s : State) (v : List Instr) : (s.setPending v).mail = s.mail := rfl
@[simp] theorem State.setPending_pending (s : State) (v : List Instr) : (s.setPending v).pending = v := rfl

end Sys2Proof.Machine
end

