-- ==== Sys2Proof/Laws/Settle.lean ====
section
/-! SUPPORT. What each shared operation of Machine/Ops.lean can do, said once: all of them stay within `Settled`, and
none makes the outbound queue longer than 32 entries or the mark queue longer than 8. -/

namespace Sys2Proof.Machine

theorem Settled.refl (s : State) : Settled s s := by
  constructor <;> first | rfl | exact ⟨[], by simp⟩

theorem Settled.trans {s t u : State} (h : Settled s t) (g : Settled t u) : Settled s u := by
  obtain ⟨es, he⟩ := h.queue
  obtain ⟨fs, hf⟩ := g.queue
  obtain ⟨ms, hm⟩ := h.marks
  obtain ⟨ns, hn⟩ := g.marks
  constructor
  case queue => exact ⟨es ++ fs, by rw [hf, he, List.append_assoc]⟩
  case marks => exact ⟨ms ++ ns, by rw [hn, hm, List.append_assoc]⟩
  all_goals first
    | exact g.mem.trans h.mem | exact g.resetLow.trans h.resetLow | exact g.anchor.trans h.anchor
    | exact g.overlay.trans h.overlay | exact g.turn.trans h.turn | exact g.held.trans h.held
    | exact g.reads.trans h.reads | exact g.run.trans h.run | exact g.plan.trans h.plan
    | exact g.fault.trans h.fault | exact g.retry.trans h.retry | exact g.phase.trans h.phase
    | exact g.buf.trans h.buf | exact g.tracker.trans h.tracker | exact g.stage.trans h.stage
    | exact g.asm.trans h.asm | exact g.accums.trans h.accums | exact g.busy.trans h.busy
    | exact g.heldSet.trans h.heldSet | exact g.frames.trans h.frames | exact g.contexts.trans h.contexts
    | exact g.stopLatch.trans h.stopLatch | exact g.stopHigh.trans h.stopHigh | exact g.pulse.trans h.pulse
    | exact g.published.trans h.published | exact g.building.trans h.building | exact g.consumer.trans h.consumer
    | exact g.ring.trans h.ring | exact g.fn.trans h.fn | exact g.args.trans h.args
    | exact g.expected.trans h.expected | exact g.disturbed.trans h.disturbed | exact g.serial.trans h.serial
    | exact g.pending.trans h.pending

theorem enqueue_settled (e : Entry) (s : State) : Settled s (enqueue e s) := by
  constructor <;> first | rfl | exact ⟨[e], rfl⟩ | exact ⟨[], by simp [enqueue]⟩

theorem setReportItems_settled (items : List ReportItem) (s : State) : Settled s (setReportItems items s) := by
  constructor <;> first | rfl | exact ⟨[], by simp [setReportItems]⟩

/-- A raised notice changes the sequence number and what the report writer has still to place, and nothing else. -/
theorem raiseNotice_cases (g : Option Gate) (n : Notice) (s : State) :
    raiseNotice g n s = s ∨
      raiseNotice g n s = s.setReport { s.report with
        seq := (s.report.seq + 1) % 65536, items := s.report.items ++ [.notice n s.report.seq g] } := by
  unfold raiseNotice
  split
  · split
    · exact .inr rfl
    · exact .inl rfl
  · exact .inl rfl
  · exact .inl rfl
  · exact .inl rfl

theorem raiseNotice_settled (g : Option Gate) (n : Notice) (s : State) : Settled s (raiseNotice g n s) := by
  obtain h | h := raiseNotice_cases g n s
  · rw [h]; exact .refl s
  · rw [h]; constructor <;> first | rfl | exact ⟨[], by simp⟩

/-- The mark push appends its target while there is room, and otherwise only raises a notice (R116). -/
theorem pushMark_cases (c t : Nat) (s : State) :
    (s.out.marks.length < Config.markCapacity ∧ pushMark c t s = s.setOut { s.out with marks := s.out.marks ++ [t] }) ∨
      (Config.markCapacity ≤ s.out.marks.length ∧
        pushMark c t s = raiseNotice (some .closeStep) (s.notice .markQueueFull c t) s) := by
  unfold pushMark
  split
  · exact .inl ⟨‹_›, rfl⟩
  · exact .inr ⟨Nat.le_of_not_lt ‹_›, rfl⟩

theorem pushMark_settled (c t : Nat) (s : State) : Settled s (pushMark c t s) := by
  obtain ⟨-, h⟩ | ⟨-, h⟩ := pushMark_cases c t s
  · rw [h]; constructor <;> first | rfl | exact ⟨[t], rfl⟩ | exact ⟨[], by simp⟩
  · rw [h]; exact raiseNotice_settled ..

theorem setItems_settled (s : State) (items : List StepItem) : Settled s (s.setClosing { s.closing with items := items }) := by
  constructor <;> first | rfl | exact ⟨[], by simp⟩

theorem raiseDue_settled (items : List StepItem) (s : State) : Settled s (raiseDue items s) := by
  induction items generalizing s with
  | nil => exact setItems_settled s []
  | cons i r ih =>
    cases i with
    | post a w => exact (setReportItems_settled _ s).trans (setItems_settled _ r)
    | notice n =>
      unfold raiseDue
      refine (raiseNotice_settled (some .closeStep) n s).trans ?_
      simp only
      split
      · exact setItems_settled _ r
      · exact ih _
    | markPush c t =>
      unfold raiseDue
      refine (pushMark_settled c t s).trans ?_
      simp only
      split
      · exact setItems_settled _ r
      · exact ih _

theorem advance_settled (s : State) : Settled s (advance s) := by
  unfold advance
  split
  · exact .refl s
  · exact raiseDue_settled _ s

theorem complete_settled (r : Result) (s : State) : Settled s (complete r s) := by
  constructor <;> first | rfl | exact ⟨[], by simp [complete]⟩

theorem setPhase_settled (p : WorkPhase) (s : State) : Settled s (setPhase p s) := by
  constructor <;> first | rfl | exact ⟨[], by simp [setPhase]⟩

theorem placeNotice_settled (ring : Ring) (n : Notice) (q : Nat) (g : Option Gate) (r : List ReportItem) (s : State) :
    Settled s (placeNotice ring n q g r s) := by
  unfold placeNotice
  split
  · refine Settled.trans ?_ (enqueue_settled _ _)
    constructor <;> first | rfl | exact ⟨[], by simp⟩
  · split
    · exact setReportItems_settled r s
    · exact (setReportItems_settled _ s).trans (enqueue_settled _ _)

theorem placeReport_settled (s : State) : Settled s (placeReport s) := by
  unfold placeReport
  split
  · exact .refl s
  · exact (setReportItems_settled _ s).trans (enqueue_settled _ _)
  · exact placeNotice_settled ..
  · exact setReportItems_settled _ s
  · exact (setReportItems_settled _ s).trans (enqueue_settled _ _)
  · refine Settled.trans ?_ (enqueue_settled _ _)
    constructor <;> first | rfl | exact ⟨[], by simp⟩
  · exact setReportItems_settled _ s

theorem placeStatus_settled (s : State) : Settled s (placeStatus s) := by
  unfold placeStatus raiseRequestDone
  split
  · exact .refl s
  · refine Settled.trans ?_ (enqueue_settled _ _)
    constructor <;> first | rfl | exact ⟨[], by simp⟩
  · refine Settled.trans (Settled.trans ?_ (enqueue_settled _ _)) (raiseNotice_settled _ _ _)
    constructor <;> first | rfl | exact ⟨[], by simp⟩
  · refine Settled.trans (Settled.trans ?_ (enqueue_settled _ _)) (raiseNotice_settled _ _ _)
    constructor <;> first | rfl | exact ⟨[], by simp⟩

theorem placeImage_settled (s : State) : Settled s (placeImage s) := by
  unfold placeImage
  split
  · exact .refl s
  · rename_i e _
    refine Settled.trans (t := enqueue e (s.setTable { s.table with items := [] })) ?_ ?_
    · refine Settled.trans ?_ (enqueue_settled _ _)
      constructor <;> first | rfl | exact ⟨[], by simp⟩
    · simp only
      split
      · refine Settled.trans ?_ (complete_settled _ _)
        constructor <;> first | rfl | exact ⟨[], by simp⟩
      · exact .refl _
  · refine Settled.trans ?_ (enqueue_settled _ _)
    constructor <;> first | rfl | exact ⟨[], by simp⟩

theorem placeDump_settled (s : State) : Settled s (placeDump s) := by
  unfold placeDump
  split
  · exact .refl s
  · rename_i e _
    refine Settled.trans (t := enqueue e (s.setEval { s.eval with dump := [] })) ?_ ?_
    · refine Settled.trans ?_ (enqueue_settled _ _)
      constructor <;> first | rfl | exact ⟨[], by simp⟩
    · simp only
      split
      · exact complete_settled _ _
      · exact .refl _
  · refine Settled.trans ?_ (enqueue_settled _ _)
    constructor <;> first | rfl | exact ⟨[], by simp⟩

theorem placeFetch_settled (s : State) : Settled s (placeFetch s) := by
  unfold placeFetch
  split
  · exact .refl s
  · refine Settled.trans ?_ (enqueue_settled _ _)
    constructor <;> first | rfl | exact ⟨[], by simp⟩

/-- Everything that the placing of one entry can do. -/
theorem placeNext_settled (p : Producer) (s : State) : Settled s (placeNext p s) := by
  unfold placeNext
  refine Settled.trans ?_ (advance_settled _)
  cases p with
  | reportWriter => exact placeReport_settled s
  | mailbox => exact placeStatus_settled s
  | contextTable => exact placeImage_settled s
  | channelEvaluator => exact placeDump_settled s
  | planLoader => exact placeFetch_settled s

theorem placeUpTo_settled (n : Nat) (s : State) : Settled s (placeUpTo n s) := by
  induction n generalizing s with
  | zero => exact .refl s
  | succ n ih =>
    unfold placeUpTo
    split
    · exact .refl s
    · exact (placeNext_settled _ s).trans (ih _)

/-- Everything that the placing of waiting entries at the end of a step can do. -/
theorem settle_settled (s : State) : Settled s (settle s) := (advance_settled s).trans (placeUpTo_settled _ _)

end Sys2Proof.Machine
end

