-- ==== Sys2Proof/Laws/Queue.lean ====
section
/-! SUPPORT. The outbound queue and the mark queue under the shared operations: the placing of one entry adds at most one
entry, so a step that places entries never fills the queue beyond 32 (R134), and a push never fills the mark queue
beyond 8 (R116). -/

namespace Sys2Proof.Machine

@[simp] theorem enqueue_queue (e : Entry) (s : State) : (enqueue e s).path.queue = s.path.queue ++ [e] := rfl
@[simp] theorem enqueue_out (e : Entry) (s : State) : (enqueue e s).out = s.out := rfl
@[simp] theorem enqueue_closing (e : Entry) (s : State) : (enqueue e s).closing = s.closing := rfl

@[simp] theorem raiseNotice_path (g : Option Gate) (n : Notice) (s : State) : (raiseNotice g n s).path = s.path := by
  obtain h | h := raiseNotice_cases g n s <;> simp [h]

@[simp] theorem raiseNotice_out (g : Option Gate) (n : Notice) (s : State) : (raiseNotice g n s).out = s.out := by
  obtain h | h := raiseNotice_cases g n s <;> simp [h]

@[simp] theorem raiseNotice_closing (g : Option Gate) (n : Notice) (s : State) :
    (raiseNotice g n s).closing = s.closing := by
  obtain h | h := raiseNotice_cases g n s <;> simp [h]

@[simp] theorem pushMark_path (c t : Nat) (s : State) : (pushMark c t s).path = s.path := by
  obtain ⟨-, h⟩ | ⟨-, h⟩ := pushMark_cases c t s <;> simp [h]

/-- A push keeps the mark queue within its bound (R116). -/
theorem pushMark_marks (c t : Nat) (s : State) (h : s.out.marks.length ≤ Config.markCapacity) :
    (pushMark c t s).out.marks.length ≤ Config.markCapacity := by
  obtain ⟨hl, e⟩ | ⟨-, e⟩ := pushMark_cases c t s
  · rw [e]; simp; omega
  · rw [e]; simpa using h

@[simp] theorem raiseDue_path (items : List StepItem) (s : State) : (raiseDue items s).path = s.path := by
  induction items generalizing s with
  | nil => rfl
  | cons i r ih =>
    cases i with
    | post a w => rfl
    | notice n =>
      simp only [raiseDue]
      split
      · simp
      · rw [ih]; simp
    | markPush c t =>
      simp only [raiseDue]
      split
      · simp
      · rw [ih]; simp

theorem raiseDue_marks (items : List StepItem) (s : State) (h : s.out.marks.length ≤ Config.markCapacity) :
    (raiseDue items s).out.marks.length ≤ Config.markCapacity := by
  induction items generalizing s with
  | nil => exact h
  | cons i r ih =>
    cases i with
    | post a w => exact h
    | notice n =>
      simp only [raiseDue]
      split
      · simpa using h
      · exact ih _ (by simpa using h)
    | markPush c t =>
      simp only [raiseDue]
      split
      · simpa using pushMark_marks c t s h
      · exact ih _ (pushMark_marks c t s h)

@[simp] theorem advance_path (s : State) : (advance s).path = s.path := by
  unfold advance
  split
  · rfl
  · exact raiseDue_path _ _

theorem advance_marks (s : State) (h : s.out.marks.length ≤ Config.markCapacity) :
    (advance s).out.marks.length ≤ Config.markCapacity := by
  unfold advance
  split
  · exact h
  · exact raiseDue_marks _ _ h

/-- What the placing of one entry does to the outbound queue before step 4 goes on. -/
theorem place_queue_length (p : Producer) (s : State) :
    (placeNext p s).path.queue.length ≤ s.path.queue.length + 1 := by
  unfold placeNext
  rw [advance_path]
  cases p with
  | reportWriter =>
    simp only [placeReport, placeNotice, placeProducerIndex, setReportItems]
    repeat' split
    all_goals simp
  | mailbox =>
    simp only [placeStatus, raiseRequestDone]
    split <;> simp
  | contextTable =>
    simp only [placeImage]
    repeat' split
    all_goals simp [complete]
  | channelEvaluator =>
    simp only [placeDump]
    repeat' split
    all_goals simp [complete]
  | planLoader =>
    simp only [placeFetch]
    split <;> simp

theorem canPlace_hasRoom {s : State} {p : Producer} (h : canPlace s p = true) : s.path.queue.length < Config.queueCapacity := by
  have hr : hasRoom s = true := by
    cases p <;> simp only [canPlace, Bool.and_eq_true] at h <;> simp_all
  simpa [hasRoom] using hr

/-- Placing waiting entries never fills the queue beyond its capacity (R134). -/
theorem placeUpTo_queue_length (n : Nat) (s : State) (h : s.path.queue.length ≤ Config.queueCapacity) :
    (placeUpTo n s).path.queue.length ≤ Config.queueCapacity := by
  induction n generalizing s with
  | zero => exact h
  | succ n ih =>
    unfold placeUpTo
    split
    · exact h
    · rename_i p hp
      have hc := canPlace_hasRoom (List.find?_some hp)
      exact ih _ (Nat.le_trans (place_queue_length p s) hc)

theorem settle_queue_length (s : State) (h : s.path.queue.length ≤ Config.queueCapacity) :
    (settle s).path.queue.length ≤ Config.queueCapacity :=
  placeUpTo_queue_length _ _ (by rw [advance_path]; exact h)

/-- The placing of one entry keeps the mark queue within its bound. -/
theorem placeNext_marks (p : Producer) (s : State) (h : s.out.marks.length ≤ Config.markCapacity) :
    (placeNext p s).out.marks.length ≤ Config.markCapacity := by
  unfold placeNext
  refine advance_marks _ ?_
  cases p with
  | reportWriter =>
    simp only [placeReport, placeNotice, placeProducerIndex, setReportItems]
    repeat' split
    all_goals exact h
  | mailbox =>
    simp only [placeStatus, raiseRequestDone]
    split
    all_goals simpa [enqueue] using h
  | contextTable =>
    simp only [placeImage]
    repeat' split
    all_goals exact h
  | channelEvaluator =>
    simp only [placeDump]
    repeat' split
    all_goals exact h
  | planLoader =>
    simp only [placeFetch]
    split <;> exact h

theorem settle_marks (s : State) (h : s.out.marks.length ≤ Config.markCapacity) :
    (settle s).out.marks.length ≤ Config.markCapacity := by
  have hp : ∀ n s, s.out.marks.length ≤ Config.markCapacity → (placeUpTo n s).out.marks.length ≤ Config.markCapacity := by
    intro n
    induction n with
    | zero => exact fun _ h => h
    | succ n ih =>
      intro s h
      unfold placeUpTo
      split
      · exact h
      · exact ih _ (placeNext_marks _ _ h)
  exact hp _ _ (advance_marks s h)

end Sys2Proof.Machine
end

