-- ==== Sys2Proof/Laws/Place.lean ====
section
/-! SUPPORT. What `settle` gives exactly when little waits: nothing at all, only the FETCHes of a load, or no item of
step 4. -/

namespace Sys2Proof.Machine

/-- With no item of step 4 left, step 4 changes nothing. -/
theorem advance_idle {s : State} (h : s.closing.items = []) : advance s = s := by
  unfold advance
  split
  · rfl
  · rw [h]
    show s.setClosing { s.closing with items := [] } = s
    rw [← h]
    rfl

/-- No producer waits with an entry. -/
def nothingWaits (s : State) : Prop :=
  s.report.items = [] ∧ s.closing.items = [] ∧ s.mail.items = [] ∧ s.table.items = [] ∧ s.eval.dump = [] ∧
    s.loader.items = []

/-- With nothing to place, `settle` changes nothing. -/
theorem settle_idle {s : State} (h : nothingWaits s) : settle s = s := by
  obtain ⟨hr, hc, hm, ht, hd, hl⟩ := h
  unfold settle
  rw [advance_idle hc]
  show placeUpTo (31 + 1) s = s
  have : producers.find? (canPlace s) = none := by
    simp [producers, canPlace, hr, hm, ht, hd, hl, statusReady]
  unfold placeUpTo
  rw [this]

/-- With FETCHes alone to place and room for all of them, they join the queue in their order. -/
theorem placeUpTo_fetches (es : List Entry) (n : Nat) (s : State) (hr : s.report.items = []) (hc : s.closing.items = [])
    (hm : s.mail.items = []) (ht : s.table.items = []) (hd : s.eval.dump = []) (hl : s.loader.items = es)
    (hn : es.length ≤ n) (hq : s.path.queue.length + es.length ≤ Config.queueCapacity) :
    placeUpTo n s = (s.setPath { s.path with queue := s.path.queue ++ es }).setLoader { s.loader with items := [] } := by
  induction es generalizing n s with
  | nil =>
    have : (s.setPath { s.path with queue := s.path.queue ++ [] }).setLoader { s.loader with items := [] } = s := by
      rw [List.append_nil, ← hl]; rfl
    rw [this]
    cases n with
    | zero => rfl
    | succ n =>
      unfold placeUpTo
      rw [show producers.find? (canPlace s) = none by
        simp [producers, canPlace, hr, hm, ht, hd, hl, statusReady]]
  | cons e es ih =>
    cases n with
    | zero => simp at hn
    | succ n =>
      simp only [List.length_cons] at hn hq
      have hroom : hasRoom s = true := by simp only [hasRoom, decide_eq_true_eq]; omega
      have hf : producers.find? (canPlace s) = some .planLoader := by
        simp [producers, canPlace, hr, hm, ht, hd, hl, statusReady, hroom, List.find?]
      unfold placeUpTo
      rw [hf]
      have hp : placeNext .planLoader s
          = (s.setPath { s.path with queue := s.path.queue ++ [e] }).setLoader { s.loader with items := es } := by
        unfold placeNext
        simp only [placeFetch, hl]
        rw [advance_idle (by exact hc)]
        rfl
      show placeUpTo n (placeNext .planLoader s) = _
      rw [hp]
      refine Eq.trans (ih n _ ?_ ?_ ?_ ?_ ?_ ?_ ?_ ?_) ?_
      · exact hr
      · exact hc
      · exact hm
      · exact ht
      · exact hd
      · rfl
      · omega
      · simp only [State.setLoader_path, State.setPath_path, List.length_append, List.length_singleton]; omega
      · simp [State.setPath, State.setLoader]

/-- A load that begins with room for its FETCHes and nothing else waiting places them at once (R146). -/
theorem settle_fetches {s : State} (hr : s.report.items = []) (hc : s.closing.items = []) (hm : s.mail.items = [])
    (ht : s.table.items = []) (hd : s.eval.dump = [])
    (hq : s.path.queue.length + s.loader.items.length ≤ Config.queueCapacity) :
    settle s
      = (s.setPath { s.path with queue := s.path.queue ++ s.loader.items }).setLoader { s.loader with items := [] } := by
  unfold settle
  rw [advance_idle hc]
  exact placeUpTo_fetches _ _ s hr hc hm ht hd rfl (by omega) hq

/-- With no item of step 4 left, the placing of one entry touches neither the mark queue and the output lines nor step 4:
a mark is pushed by step 4 alone (R142). -/
theorem placeNext_quiet (p : Producer) {s : State} (h : s.closing.items = []) :
    (placeNext p s).out = s.out ∧ (placeNext p s).closing = s.closing := by
  have quiet : ∀ {u : State}, u.out = s.out → u.closing = s.closing →
      (advance u).out = s.out ∧ (advance u).closing = s.closing := by
    intro u ho hc
    rw [advance_idle (by rw [hc]; exact h)]
    exact ⟨ho, hc⟩
  unfold placeNext
  cases p with
  | reportWriter =>
    apply quiet <;>
      · simp only [placeReport, placeNotice, placeProducerIndex, setReportItems]
        repeat' split
        all_goals rfl
  | mailbox =>
    apply quiet <;>
      · simp only [placeStatus, raiseRequestDone]
        split <;> simp
  | contextTable =>
    apply quiet <;>
      · simp only [placeImage]
        repeat' split
        all_goals rfl
  | channelEvaluator =>
    apply quiet <;>
      · simp only [placeDump]
        repeat' split
        all_goals rfl
  | planLoader =>
    apply quiet <;>
      · simp only [placeFetch]
        split <;> rfl

/-- With no item of step 4 left, `settle` pushes no mark, moves no output line and leaves step 4 as it is (R142). -/
theorem settle_quiet {s : State} (h : s.closing.items = []) :
    (settle s).out = s.out ∧ (settle s).closing = s.closing := by
  have hp : ∀ n (u : State), u.closing.items = [] →
      (placeUpTo n u).out = u.out ∧ (placeUpTo n u).closing = u.closing := by
    intro n
    induction n with
    | zero => exact fun _ _ => ⟨rfl, rfl⟩
    | succ n ih =>
      intro u hu
      unfold placeUpTo
      split
      · exact ⟨rfl, rfl⟩
      · rename_i p _
        obtain ⟨ho, hc⟩ := placeNext_quiet p hu
        obtain ⟨ho', hc'⟩ := ih (placeNext p u) (by rw [hc]; exact hu)
        exact ⟨ho'.trans ho, hc'.trans hc⟩
  unfold settle
  rw [advance_idle h]
  exact hp _ _ h

end Sys2Proof.Machine
end

