-- ==== Sys2Proof/Laws/Snoop.lean ====
section
/-! SUPPORT. What the blocks that watch controller writes can do (R132): they never touch memory, the pins, the commands
that wait, the arbiter, the run state with its plan, the stop latch or the ring in use, and the outbound queue only
grows at its back. -/

namespace Sys2Proof.Machine

/-- `t` is what a watching block may make of `s`. -/
structure Reacts (s t : State) : Prop where
  mem : t.mem = s.mem
  resetLow : t.resetLow = s.resetLow
  anchor : t.anchor = s.anchor
  pending : t.pending = s.pending
  overlay : t.path.overlay = s.path.overlay
  turn : t.path.turn = s.path.turn
  held : t.path.held = s.path.held
  reads : t.path.reads = s.path.reads
  queue : ∃ es, t.path.queue = s.path.queue ++ es
  run : t.loader.run = s.loader.run
  plan : t.loader.plan = s.loader.plan
  fault : t.loader.fault = s.loader.fault
  retry : t.loader.retry = s.loader.retry
  phase : t.loader.phase = s.loader.phase
  buf : t.loader.buf = s.loader.buf
  stopLatch : t.out.stopLatch = s.out.stopLatch
  stopHigh : t.out.stopHigh = s.out.stopHigh
  ring : t.report.ring = s.report.ring

theorem Reacts.refl (s : State) : Reacts s s := by
  constructor <;> first | rfl | exact ⟨[], by simp⟩

theorem Reacts.trans {s t u : State} (h : Reacts s t) (g : Reacts t u) : Reacts s u := by
  obtain ⟨es, he⟩ := h.queue
  obtain ⟨fs, hf⟩ := g.queue
  exact ⟨g.mem.trans h.mem, g.resetLow.trans h.resetLow, g.anchor.trans h.anchor, g.pending.trans h.pending,
    g.overlay.trans h.overlay, g.turn.trans h.turn, g.held.trans h.held, g.reads.trans h.reads,
    ⟨es ++ fs, by rw [hf, he, List.append_assoc]⟩, g.run.trans h.run, g.plan.trans h.plan, g.fault.trans h.fault,
    g.retry.trans h.retry, g.phase.trans h.phase, g.buf.trans h.buf, g.stopLatch.trans h.stopLatch,
    g.stopHigh.trans h.stopHigh, g.ring.trans h.ring⟩

theorem Settled.reacts {s t : State} (h : Settled s t) : Reacts s t :=
  ⟨h.mem, h.resetLow, h.anchor, h.pending, h.overlay, h.turn, h.held, h.reads, h.queue, h.run, h.plan, h.fault, h.retry,
    h.phase, h.buf, h.stopLatch, h.stopHigh, h.ring⟩

theorem Reacts.tracker (s : State) (v : Tracker) : Reacts s (s.setTracker v) := by
  constructor <;> first | rfl | exact ⟨[], by simp⟩
theorem Reacts.closing (s : State) (v : Closing) : Reacts s (s.setClosing v) := by
  constructor <;> first | rfl | exact ⟨[], by simp⟩
theorem Reacts.asm (s : State) (v : List Assembler) : Reacts s (s.setAsm v) := by
  constructor <;> first | rfl | exact ⟨[], by simp⟩
theorem Reacts.eval (s : State) (v : Evaluator) : Reacts s (s.setEval v) := by
  constructor <;> first | rfl | exact ⟨[], by simp⟩
theorem Reacts.table (s : State) (v : ContextTable) : Reacts s (s.setTable v) := by
  constructor <;> first | rfl | exact ⟨[], by simp⟩
theorem Reacts.mail (s : State) (v : Mailbox) : Reacts s (s.setMail v) := by
  constructor <;> first | rfl | exact ⟨[], by simp⟩
theorem Reacts.report (s : State) (v : Report) (h : v.ring = s.report.ring) : Reacts s (s.setReport v) := by
  constructor <;> first | rfl | exact h | exact ⟨[], by simp⟩
theorem Reacts.out (s : State) (v : Outputs) (h : v.stopLatch = s.out.stopLatch) (g : v.stopHigh = s.out.stopHigh) :
    Reacts s (s.setOut v) := by
  constructor <;> first | rfl | exact h | exact g | exact ⟨[], by simp⟩

theorem settle_reacts (s : State) : Reacts s (settle s) := (settle_settled s).reacts

theorem raiseNotice_reacts (g : Option Gate) (n : Notice) (s : State) : Reacts s (raiseNotice g n s) :=
  (raiseNotice_settled g n s).reacts

theorem complete_reacts (r : Result) (s : State) : Reacts s (complete r s) := (complete_settled r s).reacts

theorem setPhase_reacts (p : WorkPhase) (s : State) : Reacts s (setPhase p s) := (setPhase_settled p s).reacts

/-! ## Contexts -/

theorem publishActivation_reacts (p : Nat) (s : State) : Reacts s (publishActivation p s) := by
  unfold publishActivation setPublished
  split
  · exact .report _ _ rfl
  · exact .refl s

theorem publishZeros_reacts (s : State) : Reacts s (publishZeros s) := .report _ _ rfl

theorem takeSnapshot_reacts (k : SnapshotKind) (s : State) : Reacts s (takeSnapshot k s) := by
  unfold takeSnapshot
  split
  · exact (Reacts.table s _).trans (setPhase_reacts _ _)
  · exact complete_reacts _ _
  · exact complete_reacts _ _

theorem commitImage_reacts (s : State) : Reacts s (commitImage s) := by
  unfold commitImage
  split
  · refine Reacts.trans ?_ (complete_reacts _ _)
    split
    · exact (Reacts.table s _).trans (publishActivation_reacts _ _)
    · exact .table s _
  · exact complete_reacts _ _

theorem releaseAtAbandon_reacts (s : State) : Reacts s (releaseAtAbandon s) := by
  unfold releaseAtAbandon
  split
  · exact .refl s
  · split
    · exact (takeSnapshot_reacts _ _).trans (settle_reacts _)
    · exact (commitImage_reacts _).trans (settle_reacts _)
    · exact .refl s

/-! ## The tracker -/

theorem emptySlot_reacts (i : Nat) (b : Bool) (s : State) : Reacts s (emptySlot i b s) := .asm _ _

theorem dropBusy_reacts (s : State) : Reacts s (dropBusy s) := by
  unfold dropBusy
  split
  · exact .refl s
  · exact (emptySlot_reacts _ _ s).trans (.eval _ _)

theorem advanceMarks_reacts (pl : Plan) (c : Nat) (s : State) : Reacts s (advanceMarks pl c s) := by
  unfold advanceMarks firePulse
  simp only
  split
  · exact (Reacts.out s _ rfl rfl).trans (.out _ _ rfl rfl)
  · exact .refl s

theorem openWindow_reacts (pl : Plan) (c : Nat) (l : Bool) (s : State) : Reacts s (openWindow pl c l s) :=
  ((Reacts.tracker s _).trans (.asm _ _)).trans (.eval _ _)

theorem closeWindow_reacts (d : Bool) (s : State) : Reacts s (closeWindow d s) :=
  ((Reacts.tracker s _).trans (.asm _ _)).trans (.closing _ _)

theorem abandonWindow_reacts (r : AbandonReason) (s : State) : Reacts s (abandonWindow r s) := by
  unfold abandonWindow
  refine Reacts.trans ?_ (releaseAtAbandon_reacts _)
  refine Reacts.trans ?_ (.asm _ _)
  refine Reacts.trans ?_ (.eval _ _)
  exact ((Reacts.tracker s _).trans (raiseNotice_reacts _ _ _)).trans (dropBusy_reacts _)

theorem enterNoMould_reacts (n : Option Nat) (s : State) : Reacts s (enterNoMould n s) :=
  (Reacts.tracker s _).trans (.eval _ _)

theorem activate_reacts (pl : Plan) (p : Nat) (s : State) : Reacts s (activate pl p s) := by
  unfold activate dropHeld
  exact (((Reacts.tracker s _).trans (.eval _ _)).trans (raiseNotice_reacts _ _ _)).trans (publishActivation_reacts _ _)

theorem applyMould_reacts (pl : Plan) (id : Nat) (s : State) : Reacts s (applyMould pl id s) := by
  unfold applyMould
  split
  · exact (enterNoMould_reacts _ s).trans (publishZeros_reacts _)
  · split
    · exact activate_reacts _ _ _
    · refine Reacts.trans ?_ (publishZeros_reacts _)
      split
      · exact enterNoMould_reacts _ _
      · exact (enterNoMould_reacts _ _).trans (raiseNotice_reacts _ _ _)

theorem mouldPart_reacts (pl : Plan) (id : Nat) (s : State) : Reacts s (mouldPart pl id s) := by
  unfold mouldPart
  split
  · exact .refl s
  · split
    · exact applyMould_reacts _ _ _
    · exact applyMould_reacts _ _ _
    · exact (abandonWindow_reacts _ s).trans (applyMould_reacts _ _ _)
    · exact .refl s

theorem phasePart_reacts (pl : Plan) (w : StateWord) (s : State) : Reacts s (phasePart pl w s) := by
  unfold phasePart armedPhase openPhase closingPhase
  repeat' split
  all_goals first
    | exact .refl s | exact openWindow_reacts _ _ _ _ | exact closeWindow_reacts _ _ | exact abandonWindow_reacts _ _
    | exact .tracker _ _

theorem clearAbandoned_reacts (w : StateWord) (b : Bool) (s : State) : Reacts s (clearAbandoned w b s) := by
  unfold clearAbandoned
  split
  · exact .tracker _ _
  · exact .refl s

theorem handleWord_reacts (pl : Plan) (w : StateWord) (s : State) : Reacts s (handleWord pl w s) := by
  unfold handleWord
  refine Reacts.trans ?_ (clearAbandoned_reacts _ _ _)
  refine Reacts.trans ?_ (phasePart_reacts _ _ _)
  refine Reacts.trans ?_ (mouldPart_reacts _ _ _)
  simp only
  split
  · exact (Reacts.tracker s _).trans (advanceMarks_reacts _ _ _)
  · exact .tracker _ _

theorem examineStateWord_reacts (pl : Plan) (d : WriteWord) (s : State) : Reacts s (examineStateWord pl d s) := by
  unfold examineStateWord
  repeat' split
  · exact (handleWord_reacts _ _ _).trans (settle_reacts _)
  · exact .refl s
  · exact .refl s

theorem settleMould_reacts (pl : Plan) (s : State) : Reacts s (settleMould pl s) := by
  unfold settleMould
  repeat' split
  · exact .refl s
  · exact .refl s
  · exact applyMould_reacts _ _ _

theorem settleOpen_reacts (pl : Plan) (s : State) : Reacts s (settleOpen pl s) := by
  unfold settleOpen
  repeat' split
  · exact openWindow_reacts _ _ _ _
  · exact .tracker _ _
  · exact .tracker _ _

/-- Step 6 of a close (R14). -/
theorem stepSix_reacts (pl : Plan) (s : State) : Reacts s (stepSix pl s) := by
  unfold stepSix
  exact (((Reacts.tracker s _).trans (.closing _ _)).trans (settleMould_reacts _ _)).trans (settleOpen_reacts _ _)

/-! ## The assemblers -/

theorem setAssembler_reacts (s : State) (i : Nat) (x : Assembler) : Reacts s (s.setAssembler i x) := .asm _ _

theorem raiseCaptureFault_reacts (i : Nat) (f : CaptureFault) (s : State) : Reacts s (raiseCaptureFault i f s) :=
  (raiseNotice_reacts _ _ _).trans (settle_reacts _)

theorem offerFrame_reacts (i : Nat) (f : Frame) (s : State) : Reacts s (offerFrame i f s) := by
  unfold offerFrame
  simp only
  repeat' split
  all_goals first
    | exact .refl s | exact setAssembler_reacts _ _ _
    | exact (setAssembler_reacts _ _ _).trans (raiseCaptureFault_reacts _ _ _)

theorem completeFrame_reacts (i : Nat) (ws : List Word) (s : State) : Reacts s (completeFrame i ws s) :=
  ((setAssembler_reacts s _ _).trans (.eval _ _)).trans (offerFrame_reacts _ _ _)

theorem formatFault_reacts (i : Nat) (s : State) : Reacts s (formatFault i s) := by
  unfold formatFault
  simp only
  repeat' split
  all_goals first
    | exact setAssembler_reacts _ _ _
    | exact (setAssembler_reacts _ _ _).trans (raiseCaptureFault_reacts _ _ _)

theorem examineRingWord_reacts (i : Nat) (w : WindowPlan) (a : Nat) (d : WriteWord) (s : State) :
    Reacts s (examineRingWord i w a d s) := by
  unfold examineRingWord expectedWord sequenceBreak
  simp only
  repeat' split
  all_goals first
    | exact .refl s | exact setAssembler_reacts _ _ _ | exact formatFault_reacts _ _
    | exact (setAssembler_reacts _ _ _).trans (completeFrame_reacts _ _ _)

/-! ## The report writer and the mailbox -/

theorem examineConsumer_reacts (d : WriteWord) (s : State) : Reacts s (examineConsumer d s) := by
  unfold examineConsumer
  simp only
  repeat' split
  all_goals first | exact .refl s | exact .report _ _ rfl

theorem takeRequest_reacts (s : State) : Reacts s (takeRequest s) := by
  unfold takeRequest
  simp only
  split
  · exact (Reacts.mail s _).trans (complete_reacts _ _)
  · exact .mail _ _

theorem malformRequest_reacts (s : State) : Reacts s (malformRequest s) := .mail _ _

theorem collectWord_reacts (d : Word) (s : State) : Reacts s (collectWord d s) := by
  unfold collectWord
  split
  · exact (takeRequest_reacts s).trans (settle_reacts _)
  · split
    · exact (malformRequest_reacts s).trans (settle_reacts _)
    · exact .mail _ _

theorem examineMailWord_reacts (i : Nat) (d : WriteWord) (s : State) : Reacts s (examineMailWord i d s) := by
  unfold examineMailWord
  split
  · split
    · exact .mail _ _
    · exact .refl s
  · split
    · exact (malformRequest_reacts s).trans (settle_reacts _)
    · split
      · exact .mail _ _
      · split
        · exact collectWord_reacts _ _
        · exact (malformRequest_reacts s).trans (settle_reacts _)
  · exact .mail _ _

/-! ## A forwarded write -/

theorem snoopWord_reacts (s : State) (x : Nat × WriteWord) : Reacts s (snoopWord s x) := by
  unfold snoopWord
  repeat' split
  all_goals first
    | exact .refl s | exact examineMailWord_reacts _ _ _ | exact examineConsumer_reacts _ _
    | exact examineStateWord_reacts _ _ _ | exact examineRingWord_reacts _ _ _ _ _

/-- Everything that the watching blocks can do with the words of one write. -/
theorem snoop_reacts (xs : List (Nat × WriteWord)) (s : State) : Reacts s (xs.foldl snoopWord s) := by
  induction xs generalizing s with
  | nil => exact .refl s
  | cons x xs ih => exact (snoopWord_reacts s x).trans (ih _)

end Sys2Proof.Machine
end

