-- ==== Sys2Proof/Laws/Port.lean ====
section
/-! SUPPORT. How a write at the controller port comes to the block that watches its words: the five write rows are one
path, a transaction that is not held is taken, and a word is offered to the block of its region (R131, R132). -/

namespace Sys2Proof.Machine

/-- The five write rows with burst `t`. -/
def writeRows (t : WriteBurst) : List Instr :=
  [.controllerWrite t, .pressStateWord t, .captureRingWrite t, .noticeConsumerWrite t, .mailboxWordWrite t]

/-- Every write row with a burst that is a transaction answers what its arrival gives. -/
theorem exec_writeRow {t : WriteBurst} {c : Instr} (s : State) (ht : t.ok = true) (hc : c ∈ writeRows t) :
    exec c s = .next (arrive (.write t) s) := by
  have ht' : (Txn.write t).ok = true := ht
  have hs : submit (.write t) s = .next (arrive (.write t) s) := by unfold submit; rw [if_pos ht']
  simp only [writeRows, List.mem_cons, List.not_mem_nil, or_false] at hc
  rcases hc with rfl | rfl | rfl | rfl | rfl <;> exact hs

/-- A transaction that is not held is taken. -/
theorem arrive_takes {s : State} (t : Txn) (h : s.takes) : arrive t s = takeTxn t s := by
  obtain ⟨hl, hh, ht⟩ := h
  have hn : holds s = false := by
    unfold holds
    rcases ht with ht | ht
    · simp [show ¬ Config.turnLimit ≤ s.path.turn by omega]
    · simp [ht]
  simp [arrive, hl, hh, hn]

/-- While RESET is low a transaction goes straight to memory (R139). -/
theorem arrive_resetLow {s : State} (t : Txn) (h : s.resetLow = true) : arrive t s = forwardDirect s t := by
  simp [arrive, h]

/-- The words of an aligned burst lie at ascending addresses with no wrap. -/
theorem burstAddr_eq {a : Addr} {n i : Nat} (hn : burstLength n = true) (ha : burstAligned a n = true) (hi : i < n) :
    burstAddr a i = a.toNat + 4 * i := by
  have := a.isLt
  simp only [burstLength, burstAligned, Bool.or_eq_true, decide_eq_true_eq] at hn ha
  unfold burstAddr Config.memoryBytes
  rcases hn with ((rfl | rfl) | rfl) | rfl <;> omega

theorem oneWord_ok {a : Addr} (d : Word) (l : Lanes) (h : a.toNat % 4 = 0) : (oneWord a d l).ok = true := by
  simp [WriteBurst.ok, oneWord, burstLength, burstAligned, h]

theorem burstAddr_zero (a : Addr) : burstAddr a 0 = a.toNat := by
  have := a.isLt
  unfold burstAddr Config.memoryBytes
  omega

theorem placedWords_oneWord (a : Addr) (d : Word) (l : Lanes) :
    placedWords (oneWord a d l) = [(a.toNat, { data := d, lanes := l })] := by
  simp only [placedWords, oneWord, List.zipIdx_cons, List.zipIdx_nil, List.map_cons, List.map_nil, burstAddr_zero]

theorem takeWrite_oneWord (a : Addr) (d : Word) (l : Lanes) (s : State) :
    takeWrite (oneWord a d l) s = snoopWord (mergeAndForward (oneWord a d l) s) (a.toNat, { data := d, lanes := l }) := by
  unfold takeWrite
  rw [placedWords_oneWord, List.foldl_cons, List.foldl_nil]

theorem arrive_oneWord (a : Addr) (d : Word) (l : Lanes) {s : State} (hs : s.takes) :
    arrive (.write (oneWord a d l)) s = takeWrite (oneWord a d l) s := arrive_takes _ hs

/-- A one-word write that is not held is merged and forwarded, and its word is offered to the block of its region. -/
theorem exec_oneWord {a : Addr} {d : Word} {l : Lanes} {s : State} {c : Instr} (ha : a.toNat % 4 = 0) (hs : s.takes)
    (hc : c ∈ writeRows (oneWord a d l)) :
    exec c s = .next (snoopWord (mergeAndForward (oneWord a d l) s) (a.toNat, { data := d, lanes := l })) :=
  (exec_writeRow s (oneWord_ok d l ha) hc).trans
    (congrArg _ ((arrive_oneWord a d l hs).trans (takeWrite_oneWord a d l s)))

/-- A word outside every watched region is offered to no block. -/
theorem snoopWord_unwatched {s : State} {a : Nat} (x : WriteWord) (h : s.unwatched a) : snoopWord s (a, x) = s := by
  obtain ⟨h1, h2, h3⟩ := h
  have hm : isMailWord s.base a = false := by simp [isMailWord]; omega
  unfold snoopWord
  simp only [hm, Bool.false_eq_true, if_false]
  rw [if_neg (show ¬ a = s.base + Config.consumerOffset from h2)]
  split
  · rfl
  · rename_i pl hp
    obtain ⟨g1, g2⟩ := h3 pl hp
    have hr : ringAt pl a = none := by
      unfold ringAt
      rw [List.findIdx?_eq_none_iff.2 g2]
    rw [if_neg g1, hr]

theorem outsideAnchor_spec {s : State} {a : Nat} (h : s.outsideAnchor a) :
    isMailWord s.base a = false ∧ a ≠ s.base + Config.consumerOffset := by
  unfold State.outsideAnchor at h
  simp only [isMailWord, Config.consumerOffset, Config.anchorBytes, Bool.and_eq_false_iff, decide_eq_false_iff_not,
    ne_eq] at *
  omega

/-- The state word is offered to the tracker. -/
theorem snoopWord_stateWord {s m : State} {pl : Plan} {a : Nat} (x : WriteWord) (h : s.stateWordAt pl a)
    (hb : m.base = s.base) (hr : m.runningPlan = s.runningPlan) : snoopWord m (a, x) = examineStateWord pl x m := by
  obtain ⟨h1, h2, h3⟩ := h
  obtain ⟨h4, h5⟩ := outsideAnchor_spec h3
  unfold snoopWord
  simp only [hb, hr, h1, h4, h5, if_false, Bool.false_eq_true]
  rw [if_pos h2]

/-- A word of a capture ring is offered to its window's assembler. -/
theorem snoopWord_ring {s m : State} {pl : Plan} {i a : Nat} {w : WindowPlan} (x : WriteWord) (h : s.ringWord pl i w a)
    (hb : m.base = s.base) (hr : m.runningPlan = s.runningPlan) : snoopWord m (a, x) = examineRingWord i w a x m := by
  obtain ⟨h1, h2, h3, h4, h5, h6⟩ := h
  obtain ⟨h7, h8⟩ := outsideAnchor_spec h6
  have hi : i < pl.windows.length := (List.getElem?_eq_some_iff.1 h2).1
  have hw : pl.windows[i] = w := (List.getElem?_eq_some_iff.1 h2).2
  have hf : pl.windows.findIdx? (fun v => v.inRing a) = some i := by
    rw [List.findIdx?_eq_some_iff_getElem]
    refine ⟨hi, by rw [hw]; exact h3, fun j hj => ?_⟩
    simp [h4 j _ hj (List.getElem?_eq_getElem (Nat.lt_trans hj hi))]
  have hra : ringAt pl a = some (i, w) := by
    unfold ringAt
    simp only [hf, h2, Option.map_some]
  unfold snoopWord
  simp only [hb, hr, h1, h7, h8, if_false, Bool.false_eq_true]
  rw [if_neg h5, hra]

/-- Mailbox words 1 to 15 are offered to the mailbox. -/
theorem snoopWord_mail {m : State} {i : Nat} (x : WriteWord) (h1 : 1 ≤ i) (h2 : i ≤ 15) :
    snoopWord m (m.base + 4 * i, x) = examineMailWord i x m := by
  have hm : isMailWord m.base (m.base + 4 * i) = true := by simp [isMailWord]; omega
  unfold snoopWord
  simp only [hm, if_true]
  congr 1
  omega

/-- The notice consumer word is offered to the report writer. -/
theorem snoopWord_consumer {m : State} (x : WriteWord) : snoopWord m (m.base + 0x48, x) = examineConsumer x m := by
  have hm : isMailWord m.base (m.base + 0x48) = false := by simp [isMailWord]
  unfold snoopWord
  simp only [hm, Bool.false_eq_true, if_false]
  rw [if_pos (show m.base + 0x48 = m.base + Config.consumerOffset from rfl)]

/-- A state that a command settles into. -/
theorem endsIn_settle (x : State) : EndsIn (.next (settle x)) x := ⟨rfl, settle_settled x⟩

end Sys2Proof.Machine
end

