-- ==== Sys2Proof/Tests/Slice0.lean ====
section
/-! SUPPORT. Tests: ill-formed bursts, worked examples of the manual (each names its section), and for each statement with
hypotheses a state and operands that meet them. -/

namespace Sys2Proof.Tests

open Sys2Proof.Machine

/-! ## Small states -/

/-- A ring of two frames of three words: two scans of channels 0 and 1. -/
def win : WindowPlan :=
  { base := 0x10000, frames := 2, scans := 2, packing := .pair16, half := .firstLow, chans := [0, 1] }

def chanV : ChannelPlan := { number := 0, kind := .vib, nmin := 16, clipLimit := 20, th := 10, hdt := 5, hlt := 5, dmin := 2 }
def chanB : ChannelPlan := { number := 1, kind := .both, nmin := 16, clipLimit := 20, th := 400, hdt := 3, hlt := 5, dmin := 2 }

def cavP : CavityPlan :=
  { group := 0, installed := 3, enables := 3, startsExcluded := false, slotChans := [0, 1, 0, 0], longAddr := 0xB000 }

def prof : ProfilePlan :=
  { mouldId := 3, groups := 1, confirmations := 1, layoutSerial := 77, xd := 8, t1 := 300, t2 := 600, t3 := 1000, h := 50,
    hitWeight := 4, d := 4, w := 2, delay := 3, recordMode := .none, recordFormat := .short, stopAction := true,
    markOnCrack := true, markOnSuspect := false, recordOrigin := 0xA000, cavities := [cavP, cavP] }

def plan : Plan :=
  { serial := 7, stopHigh := true, stateWordAddr := 0x8000, windowLimit := 100, silenceLimit := 5, pulseW := 124,
    pulseP := 1, ringBase := 0x9000, ringSize := 16, kindMask := 0x1FFE, windows := [win], channels := [chanV, chanB],
    profiles := [prof, { prof with mouldId := 7, recordOrigin := 0xC000 }] }

def sound : CavityCtx :=
  { state := .sound, blind := false, score := 0, confirm := 0, learned := 4, bound := none, reported := some 1,
    enables := 3, slots := [⟨1600, 4⟩, ⟨1600, 4⟩, ⟨0, 0⟩, ⟨0, 0⟩] }

def excluded : CavityCtx := { sound with state := .excluded }

/-- A SUSPECT cavity bound to slot 1, one step from CRACKED. -/
def suspect : CavityCtx := { sound with state := .suspect, score := 4000, bound := some 1 }

def ctx : Context := { cavities := [sound, excluded], channels := [⟨0, 20, true⟩, ⟨1, -5, false⟩] }

/-- RUNNING and ARMED with profile 0, at anchor 000000h. -/
def armed : State :=
  { State.blank [] [] [] with
    resetLow := false
    loader := { Loader.start with run := .running, plan := some plan }
    tracker := { Tracker.start with state := .armed, active := some 0, last := some ⟨.idle, 3, 5⟩, openCycle := 4 }
    table := { contexts := [ctx, ctx], buf := [], items := [] }
    out := { Outputs.start with stopHigh := some true }
    report := { Report.start with ring := some { base := 0x9000, size := 16, kindMask := 0x1FFE } } }

/-- The same part OPEN for cycle 5, with every timer at its limit. -/
def opened : State :=
  (armed.setTracker { armed.tracker with state := .opened, last := some ⟨.vibrate, 3, 5⟩, openCycle := 5, limitTimer := some 100 }).setAsm
    (armed.asm.set 0 { Assembler.start with silenceTimer := some 5 })

/-- The same part CLOSING, at a stage of the close. -/
def closingAt (g : CloseStage) : State :=
  (armed.setTracker { armed.tracker with state := .closing, last := some ⟨.demould, 3, 5⟩, openCycle := 5 }).setClosing
    { stage := g, items := [] }

def noPlan : State := { State.blank [] [] [] with resetLow := false, loader := { Loader.start with run := .noPlan, retry := some 2000 } }

def withAsm (x : Assembler) (s : State) : State := s.setAsm (s.asm.set 0 x)
def withQueue (q : List Entry) (s : State) : State := s.setPath { s.path with queue := q }
def withWork (f : Fn) (args : List Nat) (p : WorkPhase) (s : State) : State :=
  s.setMail { s.mail with state := .taken, work := some { fn := f, args := args, phase := p } }
def withCavities (a b : CavityCtx) (s : State) : State :=
  s.setTable { s.table with contexts := [{ ctx with cavities := [a, b] }, ctx] }
def withAccums (a b : Accum) (s : State) : State := s.setEval { s.eval with accums := (s.eval.accums.set 0 a).set 1 b }

/-- An accumulator set with N, S1 and S2. -/
def sums (n : Nat) (s1 : Int) (s2 : Nat) : Accum := { Accum.cleared 0 with n := n, s1 := s1, s2 := s2 }

/-- A frame header of `win` with sequence number `q`. -/
def header (q : Nat) : Word := BitVec.ofNat 32 (0xA6000202 + q * 65536)

def frameOf (q order : Nat) : Frame := { words := [header q, 1, 2], order := order }

/-! ## Ill-formed bursts (9.1) -/

theorem test_burst_of_three_words : Instr.wellFormed (.controllerWrite ⟨0, List.replicate 3 ⟨0, 15⟩⟩) = false := by decide
theorem test_burst_of_no_word : Instr.wellFormed (.pressStateWord ⟨0, []⟩) = false := by decide
theorem test_burst_misaligned : Instr.wellFormed (.captureRingWrite ⟨4, List.replicate 2 ⟨0, 15⟩⟩) = false := by decide
theorem test_burst_off_word : Instr.wellFormed (.noticeConsumerWrite ⟨0x4A, [⟨0, 15⟩]⟩) = false := by decide
theorem test_burst_mailbox_misaligned : Instr.wellFormed (.mailboxWordWrite ⟨0x10, List.replicate 8 ⟨0, 15⟩⟩) = false := by decide
theorem test_read_of_sixteen : Instr.wellFormed (.controllerRead ⟨0, 16⟩) = false := by decide
theorem test_read_misaligned : Instr.wellFormed (.controllerRead ⟨0x1C, 8⟩) = false := by decide
theorem test_read_of_eight : Instr.wellFormed (.controllerRead ⟨0xFFFFE0, 8⟩) = true := by decide

/-! ## Worked examples of the manual -/

/-- 2.12: the four body words of frame 10, FIRST LOW, list 8, 9, 10. -/
theorem test_frame_of_2_12 :
    frameSamples { win with chans := [8, 9, 10] } ⟨[0xA60A0302, 0x0123FFF0, 0x77770040, 0xFFFE0005, 0x0000FFC0], 0⟩
      = [(8, -16), (9, 291), (10, 64), (8, 5), (9, -2), (10, -64)] := by decide

/-- R18: the table of reduced SOLO24 samples. -/
theorem test_solo_of_R18 :
    [0x000100, 0x0000FF, 0xFFFF80, 0xFFFF00, 0xFFFEFF, 0x7FFFFF, 0x12800000].map soloSample
      = [1, 0, -1, -1, -2, 32767, -32768] := by decide

/-- 3.4: the worked hit sequence, before the close and after it. -/
def hitSamples : List Int :=
  [12, 500, 700, 300, 450, 20, 30, 10, 900, 15, 20, 15, 600, 460, 30, 11, 9, 12, 12, 12, 12, 12, 800, 950]

theorem test_hits_of_3_4 :
    let a := closeHit chanB (hitSamples.foldl (fun b x => accumulate chanB x b) (.cleared 12))
    (a.hits, a.qualified, a.peak, a.n) = (3, 2, 938, 24) := by decide

/-- 3.4, with HLT = 0. -/
theorem test_hits_without_lockout :
    let c := { chanB with hlt := 0 }
    let a := closeHit c (hitSamples.foldl (fun b x => accumulate c x b) (.cleared 12))
    (a.hits, a.qualified, a.peak) = (4, 3, 938) := by decide

/-- 3.8: variance and RMS of channels 3, 8, 9, 10 and 21. -/
theorem test_variance_of_3_8 :
    [variance 1800 9000 4500000000, variance 12 60 1200, variance 2000 1000 900000000, variance 16 1 1,
      variance 16 320 108800] = [2499975, 75, 449999, 0, 6400] := by decide

theorem test_rms_of_3_8 : [2499975, 75, 449999, 0, 6400, 1528000].map isqrt = [1581, 8, 670, 0, 80, 1236] := by decide

/-- 3.8: channel 21 of the example, GOOD. -/
theorem test_outcomes_of_3_8 :
    [outcomeOf true chanB (sums 1800 9000 4500000000), outcomeOf false chanB (sums 12 60 1200),
      outcomeOf false chanB { sums 2000 1000 900000000 with clips := 40 }, outcomeOf false chanB (sums 16 1 1),
      outcomeOf false chanB (sums 16 320 108800)] = [.silent, .few, .clipped, .flat, .good] := by decide

/-- R48: offsets truncate toward zero. -/
theorem test_offsets_of_R48 :
    [meanOffset 16 320, meanOffset 16 (-35), meanOffset 16 35, meanOffset 16 (-524288)] = [20, -2, 2, -32768] := by decide

/-- 4.12: the medians of the worked row. -/
theorem test_medians_of_4_12 :
    [medianOf [266, 307, 266, 256], medianOf [266, 256, 266, 256], medianOf [266, 256, 256], medianOf [266, 256],
      medianOf [301, 247, 251, 255, 258, 262]] = [266, 261, 256, 256, 256] := by decide

/-- 5.12: the score under steady evidence 37. -/
theorem test_scores_of_5_12 : [412, 424, 574, 576, 591, 592].map (fun x => newScore 4 x 37) = [424, 435, 576, 577, 592, 592] := by decide

/-- 5.13: cavity 14 enters CRACKED and keeps its bound slot; 5.14: cavity 7 falls to SOUND. -/
theorem test_states_of_5_13 :
    (stateStep { prof with confirmations := 3 } 2 { suspect with score := 1008, confirm := 2, bound := some 2 }).state = .cracked ∧
      (stateStep { prof with t2 := 400, t3 := 800 } 0 { suspect with score := 200 }).state = .sound := by decide

/-- 5.13: slot 1 of cavity 12, and the first baseline of cavity 16. -/
theorem test_baselines_of_5_13 :
    updateBaseline 6 1250 ⟨19200, 64⟩ = ⟨19212, 64⟩ ∧ updateBaseline 6 640 ⟨0, 0⟩ = ⟨10240, 1⟩ := by decide

/-- 7.6, events 6 and 10: the marks that a DEMOULD entry reaches. -/
theorem test_marks_of_7_6 :
    (advanceMarks plan 65535 (armed.setOut { armed.out with marks := [65535, 0, 1] })).out.marks = [0, 1] ∧
      (advanceMarks plan 1 (armed.setOut { armed.out with marks := [0, 1, 2] })).out
        = { armed.out with marks := [2], pulse := some ⟨0, 250⟩ } := by decide

/-- 9.6: memory and queue of the worked sequence, whose last step withdraws B. -/
def overtaken : Option State :=
  runAll
    [.controllerWrite (oneWord 0x2000 0x0000AAAA 3), .controllerWrite (oneWord 0x2004 0x77770000 12),
      .controllerWrite (oneWord 0x2004 0x00008888 3), .postPerformed]
    ((withQueue [.post 0x2000 0x11112222 0, .post 0x2004 0x33334444 0] noPlan).setPath
      { noPlan.path with queue := [.post 0x2000 0x11112222 0, .post 0x2004 0x33334444 0], turn := 2 })

theorem test_sequence_of_9_6 :
    (overtaken.map fun s => (s.path.queue, s.path.turn, readWord s.mem 0x2000, readWord s.mem 0x2004))
      = some ([], 1, 0x1111AAAA, 0x77778888) := by decide +kernel

/-- 8.6: a consumer write of 9 is taken, one of 5 is ignored. -/
theorem test_consumer_of_8_6 :
    let s := armed.setReport { armed.report with producer := 2, consumer := 3 }
    (examineConsumer ⟨9, 15⟩ s).report.consumer = 9 ∧
      (examineConsumer ⟨5, 15⟩ (examineConsumer ⟨9, 15⟩ s)).report.consumer = 9 ∧
      (examineConsumer ⟨2, 15⟩ (examineConsumer ⟨9, 15⟩ s)).report.consumer = 2 := by decide

/-- The state in which a command ends. -/
def after (c : Instr) (s : State) : State :=
  match exec c s with
  | .next t => t
  | .fault _ => s
  | .refused _ => s

/-- 10.2: State.reset is what RESET_RELEASED with both straps low gives. -/
theorem test_reset_released : after (.resetReleased false false) (State.blank [] [] []) = State.reset := by decide +kernel

/-- R144: ANCHOR1 high and ANCHOR0 low give the base 800000h. -/
theorem test_anchor_of_R144 : (after (.resetReleased true false) (State.blank [] [] [])).base = 0x800000 := by decide +kernel

/-- 1.12, events 4 to 6: a VIBRATE word with a new cycle number closes the window and sets the deferred-open flag. -/
theorem test_deferred_of_1_12 :
    (openPhase ⟨.vibrate, 3, 501⟩ opened).tracker.state = .closing ∧
      (openPhase ⟨.vibrate, 3, 501⟩ opened).tracker.deferredOpen = true ∧
      (openPhase ⟨.vibrate, 3, 5⟩ opened) = opened := by decide +kernel

/-! ## Witnesses: the controller port and the press cycle -/

theorem armed_takes : armed.takes := ⟨rfl, rfl, .inl (by decide)⟩
theorem opened_takes : opened.takes := ⟨rfl, rfl, .inl (by decide)⟩

theorem plan_only {P : Plan → Prop} (h : P plan) {s : State} (hs : s.runningPlan = some plan) :
    ∀ q, s.runningPlan = some q → P q := by
  intro q hq
  rw [hs] at hq
  cases hq
  exact h

theorem armed_stateWordAt : armed.stateWordAt plan 0x8000 := ⟨rfl, rfl, .inr (by decide)⟩
theorem opened_stateWordAt : opened.stateWordAt plan 0x8000 := ⟨rfl, rfl, .inr (by decide)⟩

/-- Every word of the ring of `win` in a state with `plan`. -/
theorem ringWord_of {s : State} (hs : s.runningPlan = some plan) (hb : s.base = 0) (a : Nat) (h : 0x10000 ≤ a) (h2 : a < 0x10018) :
    s.ringWord plan 0 win a := by
  refine ⟨hs, rfl, ?_, fun j v hj => absurd hj (by omega), ?_, .inr ?_⟩
  · show (decide (0x10000 ≤ a) && decide (a < 0x10018)) = true
    simp only [h, h2, decide_true, Bool.and_self]
  · show a ≠ 0x8000; omega
  · rw [hb]; show 0 + 0x2400 ≤ a; omega

theorem test_witness_StepRunsFront :
    (armed.setPending [.lineTick, .publish]).pending = .lineTick :: [.publish] := rfl

theorem test_witness_RefusedOrHeld :
    let t : WriteBurst := ⟨4, List.replicate 2 ⟨0, 15⟩⟩
    (t.words.length ∉ [1, 2, 4, 8] ∨ t.addr.toNat % (4 * t.words.length) ≠ 0) ∧
      ([⟨0, 15⟩, ⟨0, 15⟩, ⟨0, 15⟩] : List WriteWord).length ∉ [1, 2, 4, 8] ∧
      (0 ∉ [1, 2, 4, 8] ∧ (0x1C : Addr).toNat % (4 * 8) ≠ 0) := by decide

/-- A burst of eight words at the top of memory, taken, and while RESET is low. -/
theorem test_witness_WriteReachesMemory :
    let t : WriteBurst := ⟨0xFFFFE0, List.replicate 8 ⟨5, 9⟩⟩
    t.ok = true ∧ memWf armed.mem = true ∧ armed.takes ∧ (State.blank [] [] []).resetLow = true :=
  ⟨by decide, rfl, armed_takes, rfl⟩

/-- Bursts just below and just above the ring of `win`, and a burst over mailbox words 2 and 3. -/
theorem test_witness_WriteTaken :
    let below : WriteBurst := ⟨0xFFF8, List.replicate 2 ⟨5, 9⟩⟩
    let above : WriteBurst := ⟨0x10018, List.replicate 2 ⟨5, 9⟩⟩
    (below.ok = true ∧ above.ok = true ∧ (⟨8, List.replicate 2 ⟨5, 15⟩⟩ : WriteBurst).ok = true ∧ armed.takes) ∧
      (∀ x ∈ below.words.mapIdx (fun i x => (below.addr.toNat + 4 * i, x)), armed.unwatched x.1) ∧
      (∀ x ∈ above.words.mapIdx (fun i x => (above.addr.toNat + 4 * i, x)), armed.unwatched x.1) ∧
      (0xFFFFFC : Addr).toNat % 4 = 0 ∧
      [Entry.post 0x20 5 14, .post 0x24 5 0, .fetch 0x20 .dropped].all Entry.stays = true ∧
      (State.blank [] [] []).resetLow = true := by
  refine ⟨⟨by decide, by decide, by decide, armed_takes⟩, ?_, ?_, by decide, by decide, rfl⟩ <;>
    (intro x hx
     simp only [List.replicate, List.mapIdx_cons, List.mapIdx_nil, List.mem_cons, List.not_mem_nil, or_false] at hx
     rcases hx with rfl | rfl <;> exact ⟨.inr (by decide), by decide, plan_only (by decide) rfl⟩)

theorem test_witness_RefusedOrHeld_held :
    let s := noPlan.setPath { noPlan.path with turn := 4, queue := [.fetch 0x400 .planLoader] }
    let t := noPlan.setPath { noPlan.path with held := [.read ⟨0, 1⟩] }
    s.resetLow = false ∧ (Config.turnLimit ≤ s.path.turn ∧ s.path.queue ≠ []) ∧
      (t.resetLow = false ∧ t.path.held ≠ [] ∧ (oneWord 4 1 15).ok = true ∧ (⟨4, 1⟩ : ReadBurst).ok = true) := by decide

/-- A read of words served by a queued POST and from memory, and of the first and the last eight words of the verdict
window: words 1 and 57 and 60 and 63 of it are words 0, 56, 57 and 60 of the bank. The first eight with RESET low too. -/
theorem test_witness_ReadServed :
    let s := withQueue [.post 0x20000 5 0, .post 0x20000 6 0] armed
    (⟨0x20000, 2⟩ : ReadBurst).ok = true ∧ s.takes ∧
      s.path.queue = [.post 0x20000 5 0] ++ .post 0x20000 6 0 :: [] ∧
      (∀ v p, Entry.post 0x20004 v p ∉ s.path.queue) ∧
      ((⟨0x100, 8⟩ : ReadBurst).ok = true ∧ (⟨0x1E0, 8⟩ : ReadBurst).ok = true ∧ s.path.overlay = true ∧
        s.base + 0x100 ≤ 0x100 ∧ 0x1FC < s.base + 0x200 ∧
        s.report.published[0]? = some 0 ∧ 0x104 = s.base + 0x104 + 4 * 0 ∧
        s.report.published[56]? = some 0 ∧ 56 < 57 ∧ 0x1E0 + 4 * 1 = s.base + 0x104 + 4 * 56 ∧
        0x1E0 + 4 * 2 = s.base + 0x1E8 ∧ 0x1E0 + 4 * 3 = s.base + 0x1EC ∧
        s.report.published[57 + 3]? = some 0 ∧ 3 < 4 ∧ 0x1E0 + 4 * 7 = s.base + 0x1F0 + 4 * 3) ∧
      ((s.setResetLow true).resetLow = true ∧ (s.setResetLow true).path.overlay = true) := by
  refine ⟨by decide, ⟨rfl, rfl, .inl (by decide)⟩, rfl, ?_, by decide⟩
  intro v p h
  simp [withQueue, State.setPath] at h

theorem test_witness_QueueIsMemoryToBe :
    memWf [] = true ∧ 0x2004 % 4 = 0 ∧ Coherent [] [.post 0x2004 0x33334444 0, .fetch 0x2000 .dropped] ∧
      (∀ e ∈ [Entry.post 0x2004 0x33334444 0, .fetch 0x2000 .dropped], ∀ b w o, e = Entry.post b w o → b % 4 = 0) := by
  refine ⟨rfl, rfl, ⟨rfl, ?_, ?_⟩, ?_⟩
  · intro e he
    simp only [List.mem_cons, List.not_mem_nil, or_false] at he
    rcases he with rfl | rfl
    · exact ⟨rfl, fun k _ h => absurd h (by simp)⟩
    · trivial
  · exact .cons (fun e he => by simp only [List.mem_singleton] at he; subst he; trivial) (.cons (fun _ h => by cases h) .nil)
  · intro e he b w o h
    simp only [List.mem_cons, List.not_mem_nil, or_false] at he
    rcases he with rfl | rfl
    · cases h; rfl
    · cases h

theorem test_witness_ResetPin :
    let p := withQueue [.post 0x2000 5 0] armed
    let f := withQueue [.fetch 0x2000 .planLoader] noPlan
    let h := armed.setPath { armed.path with held := [.write (oneWord 0x20 5 15)] }
    (p.resetLow = false ∧ p.path.held = [] ∧ p.path.queue = .post 0x2000 5 0 :: []) ∧
      (f.resetLow = false ∧ f.path.held = [] ∧ f.path.queue = .fetch 0x2000 .planLoader :: []) ∧
      (h.resetLow = false ∧ h.path.held = [.write (oneWord 0x20 5 15)]) ∧ (State.blank [] [] []).resetLow = true := by decide

/-- A lane missing; a phase of 5; a check field of 1. -/
theorem test_witness_StateWordAccepted :
    armed.takes ∧ (0x8000 : Addr).toNat % 4 = 0 ∧ armed.stateWordAt plan (0x8000 : Addr).toNat ∧ (7 : Lanes) ≠ 15 ∧
      readStateWord 0x00530005 = none ∧ readStateWord 0x01230005 = none ∧
      readStateWord 0x00430005 = some ⟨.stopped, 3, 5⟩ :=
  ⟨armed_takes, rfl, armed_stateWordAt, by decide, by decide, by decide, by decide⟩

/-- A VIBRATE word, the same with its cycle the one last abandoned, and a FILL word; channel 1 of a context, and channel 2,
which has no channel part. -/
theorem test_witness_VibrateOpensWindow :
    let again := armed.setTracker { armed.tracker with lastAbandoned := some 5 }
    (armed.takes ∧ (0x8000 : Addr).toNat % 4 = 0 ∧ armed.stateWordAt plan (0x8000 : Addr).toNat ∧
      readStateWord 0x00230005 = some ⟨.vibrate, 3, 5⟩ ∧ armed.tracker.state = .armed ∧ armed.tracker.active = some 0 ∧
      plan.profiles[0]? = some prof ∧ 3 = prof.mouldId ∧ armed.table.contexts[0]? = some ctx ∧
      armed.tracker.lastAbandoned ≠ some 5) ∧
    (again.takes ∧ again.stateWordAt plan (0x8000 : Addr).toNat ∧ again.tracker.state = .armed ∧
      again.tracker.active = some 0 ∧ again.table.contexts[0]? = some ctx ∧ again.tracker.lastAbandoned = some 5 ∧
      readStateWord 0x00130005 = some ⟨.fill, 3, 5⟩ ∧ Phase.fill ≠ .vibrate) ∧
    ((ctx.channels.map fun y => y.number).Nodup ∧ ⟨1, -5, false⟩ ∈ ctx.channels ∧ ∀ x ∈ ctx.channels, x.number ≠ 2) :=
  ⟨⟨armed_takes, rfl, armed_stateWordAt, by decide, rfl, rfl, rfl, rfl, rfl, by decide⟩,
    ⟨⟨rfl, rfl, .inl (by decide)⟩, ⟨rfl, rfl, .inr (by decide)⟩, rfl, rfl, rfl, rfl, by decide, by decide⟩, by decide⟩

/-- OPEN: a DEMOULD word, a VIBRATE word with the next cycle number, and one with the open cycle. CLOSING: a VIBRATE word and an
IDLE word of another mould. -/
theorem test_witness_WordClosesWindow :
    let s := closingAt .placing
    (opened.takes ∧ (0x8000 : Addr).toNat % 4 = 0 ∧ opened.stateWordAt plan (0x8000 : Addr).toNat ∧
      readStateWord 0x00330005 = some ⟨.demould, 3, 5⟩ ∧ readStateWord 0x00230006 = some ⟨.vibrate, 3, 6⟩ ∧
      opened.tracker.state = .opened ∧ opened.tracker.active = some 0 ∧ plan.profiles[0]? = some prof ∧ 3 = prof.mouldId ∧
      Phase.demould ≠ .stopped ∧ (Phase.vibrate = .vibrate → 6 ≠ opened.tracker.openCycle) ∧
      readStateWord 0x00230005 = some ⟨.vibrate, 3, 5⟩ ∧ 5 = opened.tracker.openCycle) ∧
    (s.takes ∧ s.stateWordAt plan (0x8000 : Addr).toNat ∧ s.tracker.state = .closing ∧
      readStateWord 0x00070005 = some ⟨.idle, 7, 5⟩) :=
  ⟨⟨opened_takes, rfl, opened_stateWordAt, by decide, by decide, rfl, rfl, rfl, rfl, by decide, by decide, by decide, rfl⟩,
    ⟨rfl, rfl, .inl (by decide)⟩, ⟨rfl, rfl, .inr (by decide)⟩, rfl, by decide⟩

/-- The state in which an accepted word for cycle 5 is handled. -/
def wordIn (d : Word) (w : StateWord) (s : State) : State := (mergeAndForward (oneWord 0x8000 d 15) s).wordTaken plan w

/-- A SAVE CONTEXT that waits, and a checked image, of the active profile. -/
def saving : State := withWork .saveContext [0, 0xD000] .waiting opened
def restoring : State := withWork .restoreContext [0, 0xD000] .checked opened

theorem nothing_waits (x : State) (h : x.mail.work = none) : AbandonReleases plan x x :=
  .inl ⟨fun _ hw => absurd (hw.symm.trans h) nofun, rfl⟩

/-- A STOPPED word; a window-limit timer exactly at the limit; with no work, a snapshot and a commit waiting. -/
theorem test_witness_WindowAbandoned :
    (opened.takes ∧ opened.stateWordAt plan (0x8000 : Addr).toNat ∧ readStateWord 0x00430005 = some ⟨.stopped, 3, 5⟩ ∧
      opened.tracker.state = .opened ∧ opened.tracker.active = some 0 ∧ plan.profiles[0]? = some prof ∧ 3 = prof.mouldId) ∧
    (∀ x ∈ [(wordIn 0x00430005 ⟨.stopped, 3, 5⟩ opened).abandoned 2, opened.abandoned 3], AbandonReleases plan x x) ∧
    (∀ x ∈ [(wordIn 0x00430005 ⟨.stopped, 3, 5⟩ saving).abandoned 2, saving.abandoned 3],
      AbandonReleases plan x (settle (x.snapshot plan prof ctx .atAbandon 0 0xD000))) ∧
    (∀ x ∈ [(wordIn 0x00430005 ⟨.stopped, 3, 5⟩ restoring).abandoned 2, restoring.abandoned 3],
      AbandonReleases plan x (settle (x.committed prof 0 0xD000))) ∧
    (opened.resetLow = false ∧ opened.runningPlan = some plan ∧ opened.tracker.limitTimer = some 100 ∧
      plan.windowLimit ≤ 100) := by
  refine ⟨⟨opened_takes, opened_stateWordAt, by decide, rfl, rfl, rfl, rfl⟩, ?_, ?_, ?_, rfl, rfl, rfl, by decide⟩ <;>
    (intro x hx
     simp only [List.mem_cons, List.not_mem_nil, or_false] at hx
     rcases hx with rfl | rfl)
  · exact nothing_waits _ rfl
  · exact nothing_waits _ rfl
  · exact .inr (.inl ⟨0, 0xD000, prof, ctx, rfl, rfl, rfl, rfl⟩)
  · exact .inr (.inl ⟨0, 0xD000, prof, ctx, rfl, rfl, rfl, rfl⟩)
  · exact .inr (.inr ⟨0, 0xD000, prof, rfl, rfl, by decide +kernel, rfl, rfl⟩)
  · exact .inr (.inr ⟨0, 0xD000, prof, rfl, rfl, by decide +kernel, rfl, rfl⟩)

/-- Mould 7, of profile 1, is applied to `s`. -/
theorem applies_7 (s : State) (h : s.table.contexts[1]? = some ctx) :
    ∃ v, MouldApplies plan 7 s v ∧ v.tracker.active = some 1 ∧ v.table.contexts[1]? = some ctx ∧
      v.tracker.lastAbandoned = s.tracker.lastAbandoned := by
  refine ⟨_, .inl ⟨1, _, ctx, by decide, rfl, rfl, ?_, h, rfl⟩, ?_, ?_, ?_⟩
  · intro i v hi hv
    have : i = 0 := by omega
    subst this
    cases hv
    decide
  all_goals
    rcases raiseNotice_cases none _ _ with hr | hr <;> rw [hr] <;> first | rfl | exact h

/-- Mould 15 is no profile's, and mould 0 is none: NO MOULD. -/
theorem applies_none (s : State) (id : Nat) (h : id = 0 ∨ ∀ q ∈ plan.profiles, q.mouldId ≠ id) :
    ∃ v, MouldApplies plan id s v ∧ v.tracker.active = none := by
  refine ⟨_, .inr ⟨h, rfl⟩, ?_⟩
  split
  · rfl
  · rcases raiseNotice_cases none _ _ with hr | hr <;> rw [hr] <;> rfl

/-- Words of moulds 7, 15 and 0 in ARMED and in OPEN: VIBRATE and FILL. -/
theorem test_witness_MouldApplied :
    (armed.takes ∧ armed.stateWordAt plan (0x8000 : Addr).toNat ∧ opened.takes ∧ opened.stateWordAt plan (0x8000 : Addr).toNat ∧
      readStateWord 0x00270009 = some ⟨.vibrate, 7, 9⟩ ∧ readStateWord 0x00170009 = some ⟨.fill, 7, 9⟩ ∧
      readStateWord 0x002F0009 = some ⟨.vibrate, 15, 9⟩ ∧ readStateWord 0x00000009 = some ⟨.idle, 0, 9⟩) ∧
    (∀ m ∈ [7, 15, 0], ∀ s ∈ [armed, opened], ∀ p q, s.tracker.active = some p → plan.profiles[p]? = some q → q.mouldId ≠ m) ∧
    (armed.tracker.state = .noMould ∨ armed.tracker.state = .armed) ∧
    (let u := (wordIn 0x00270009 ⟨.vibrate, 7, 9⟩ opened).abandoned 1
     opened.tracker.state = .opened ∧ AbandonReleases plan u u ∧
      ∃ v, MouldApplies plan 7 u v ∧ v.tracker.active = some 1 ∧ v.table.contexts[1]? = some ctx ∧
        v.tracker.lastAbandoned ≠ some 9) ∧
    (∃ v, MouldApplies plan 7 (wordIn 0x00270009 ⟨.vibrate, 7, 9⟩ armed) v ∧ v.tracker.active = some 1 ∧
      v.table.contexts[1]? = some ctx ∧ v.tracker.lastAbandoned ≠ some 9) ∧
    (∃ v, MouldApplies plan 15 (wordIn 0x002F0009 ⟨.vibrate, 15, 9⟩ armed) v ∧ v.tracker.active = none) ∧
    ∃ v, MouldApplies plan 0 (wordIn 0x00000009 ⟨.idle, 0, 9⟩ armed) v ∧ v.tracker.active = none := by
  refine ⟨⟨armed_takes, armed_stateWordAt, opened_takes, opened_stateWordAt, by decide, by decide, by decide, by decide⟩,
    ?_, .inr rfl, ⟨rfl, nothing_waits _ rfl, ?_⟩, ?_, applies_none _ _ (.inr (by decide)), applies_none _ _ (.inl rfl)⟩
  · intro m hm s hs p q hp hq
    have : p = 0 := by
      simp only [List.mem_cons, List.not_mem_nil, or_false] at hs
      rcases hs with rfl | rfl <;> (cases hp; rfl)
    subst this
    cases hq
    revert m
    decide
  · obtain ⟨v, h, ha, hc, hl⟩ := applies_7 ((wordIn 0x00270009 ⟨.vibrate, 7, 9⟩ opened).abandoned 1) rfl
    exact ⟨v, h, ha, hc, by rw [hl]; decide +kernel⟩
  · obtain ⟨v, h, ha, hc, hl⟩ := applies_7 (wordIn 0x00270009 ⟨.vibrate, 7, 9⟩ armed) rfl
    exact ⟨v, h, ha, hc, by rw [hl]; decide +kernel⟩

/-- The front marks 65535 and 1 are reached by cycle 1, the mark 2 is not; a DEMOULD word after IDLE and one after DEMOULD. -/
theorem test_witness_DemouldAdvancesMarks :
    let s := armed.setOut { armed.out with marks := [65535, 1, 2] }
    let c := closingAt .placing
    (s.out.marks = [65535, 1] ++ [2] ∧ (∀ t ∈ [65535, 1], (((1 : Nat) : Int) - (t : Nat)) % 65536 < 32768) ∧
      (∀ t r, [2] = t :: r → ¬ (((1 : Nat) : Int) - (t : Nat)) % 65536 < 32768)) ∧
    (s.takes ∧ s.stateWordAt plan (0x8000 : Addr).toNat ∧ readStateWord 0x00330001 = some ⟨.demould, 3, 1⟩ ∧
      ∀ v, s.tracker.last = some v → v.phase ≠ .demould) ∧
    (c.takes ∧ c.stateWordAt plan (0x8000 : Addr).toNat ∧ ∃ v, c.tracker.last = some v ∧ v.phase = .demould) ∧
    s.Consistent ∧ c.Consistent := by
  refine ⟨⟨rfl, by decide, ?_⟩, ⟨⟨rfl, rfl, .inl (by decide)⟩, ⟨rfl, rfl, .inr (by decide)⟩, by decide, ?_⟩,
    ⟨⟨rfl, rfl, .inl (by decide)⟩, ⟨rfl, rfl, .inr (by decide)⟩, _, rfl, rfl⟩,
    ⟨by decide, by decide, by decide, rfl, ?_, by decide, by decide, by decide, by decide, by decide, by decide, by decide⟩,
    ⟨by decide, by decide, by decide, rfl, ?_, by decide, by decide, by decide, by decide, by decide, by decide, by decide⟩⟩
  · rintro t r h
    cases h
    decide
  · rintro v h
    cases h
    decide
  · intro p h; cases h; decide
  · intro p h; cases h; decide

/-! ## Witnesses: capture windows -/

/-- In HUNT a header at the last frame start, and at a word that is no frame start; in ASSEMBLE the last but one word of
frame 1, and the header that follows the last word of the ring. -/
theorem test_witness_FrameWordTaken :
    let hunting := withAsm .start opened
    let x : Assembler := { Assembler.start with state := .assemble, expected := 0x10010, collected := [header 0] }
    let y : Assembler := { Assembler.start with state := .assemble, expected := 0x10000 }
    (hunting.takes ∧ hunting.ringWord plan 0 win (0x1000C : Addr).toNat ∧ win.base % 4 = 0 ∧ hunting.asm[0]? = some .start ∧
      Assembler.start.state = .hunt ∧ win.startsFrame (0x1000C : Addr).toNat (header 255) ∧
      ¬ ((15 : Lanes) = 15 ∧ win.startsFrame (0x10004 : Addr).toNat (header 0))) ∧
    ((withAsm x opened).takes ∧ (withAsm x opened).ringWord plan 0 win (0x10010 : Addr).toNat ∧
      (withAsm x opened).asm[0]? = some x ∧ (0x10010 : Addr).toNat = x.expected ∧
      (x.collected ≠ [] ∧ x.collected.length + 1 < win.frameWords)) ∧
    ((withAsm y opened).takes ∧ (withAsm y opened).ringWord plan 0 win (0x10000 : Addr).toNat ∧
      (withAsm y opened).asm[0]? = some y ∧ (0x10000 : Addr).toNat = y.expected ∧
      (y.collected = [] ∧ win.startsFrame (0x10000 : Addr).toNat (header 0))) := by
  refine ⟨⟨⟨rfl, rfl, .inl (by decide)⟩, ringWord_of rfl rfl _ (by decide) (by decide), by decide, rfl, rfl,
      ⟨⟨1, by decide, by decide⟩, by decide, by decide, by decide⟩, ?_⟩,
    ⟨⟨rfl, rfl, .inl (by decide)⟩, ringWord_of rfl rfl _ (by decide) (by decide), rfl, rfl, by decide, by decide⟩,
    ⟨⟨rfl, rfl, .inl (by decide)⟩, ringWord_of rfl rfl _ (by decide) (by decide), rfl, rfl, rfl,
      ⟨0, by decide, by decide⟩, by decide, by decide, by decide⟩⟩
  rintro ⟨-, ⟨j, hj, h⟩, -⟩
  have : j = 0 ∨ j = 1 := by have : j < 2 := hj; omega
  rcases this with rfl | rfl <;> revert h <;> decide

/-- A word that is no header; a third frame, marks raised and not; a silence timer exactly at the limit. -/
theorem test_witness_CaptureFaultsCounted :
    let x : Assembler := { Assembler.start with state := .assemble, expected := 0x10000 }
    let y : Assembler :=
      { Assembler.start with
        state := .assemble, expected := 0x10008, collected := [header 0, 1], slot0 := some (frameOf 254 0),
        slot1 := some (frameOf 255 1), lastSeq := some 255, gap := 255 }
    ((withAsm x opened).takes ∧ (withAsm x opened).ringWord plan 0 win (0x10000 : Addr).toNat ∧
      (withAsm x opened).asm[0]? = some x ∧ (0x10000 : Addr).toNat = x.expected ∧ x.collected = [] ∧
      ¬ ((0xA6000203 : Word).toNat / 2 ^ 24 = 0xA6 ∧ (0xA6000203 : Word).toNat / 2 ^ 8 % 256 = win.chans.length ∧
        (0xA6000203 : Word).toNat % 256 = win.scans) ∧
      (withAsm x opened).tracker.state = .opened ∧ x.formatRaised = false ∧ (withAsm x armed).tracker.state ≠ .opened ∧
      (withAsm x armed).takes ∧ (withAsm x armed).ringWord plan 0 win (0x10000 : Addr).toNat) ∧
    ((withAsm y opened).takes ∧ (withAsm y opened).ringWord plan 0 win (0x10008 : Addr).toNat ∧
      (withAsm y opened).asm[0]? = some y ∧ (0x10008 : Addr).toNat = y.expected ∧ y.collected = header 0 :: [1] ∧
      [(1 : Word)].length + 2 = win.frameWords ∧ y.slot0 = some (frameOf 254 0) ∧ y.slot1 = some (frameOf 255 1) ∧
      y.lastSeq = some (((header 0).toNat / 2 ^ 16 + 255) % 256) ∧ y.gap ≤ 255 ∧ y.overrunRaised = false ∧
      ({ y with overrunRaised := true } : Assembler).overrunRaised = true) ∧
    (opened.resetLow = false ∧ opened.runningPlan = some plan ∧ opened.tracker.state = .opened ∧
      (0 : Fin 4).val < plan.windows.length ∧ opened.asm[0]? = some { Assembler.start with silenceTimer := some 5 } ∧
      plan.silenceLimit ≤ 5) := by
  refine ⟨⟨⟨rfl, rfl, .inl (by decide)⟩, ringWord_of rfl rfl _ (by decide) (by decide), rfl, rfl, rfl, by decide, rfl, rfl,
      by decide, ⟨rfl, rfl, .inl (by decide)⟩, ringWord_of rfl rfl _ (by decide) (by decide)⟩,
    ⟨⟨rfl, rfl, .inl (by decide)⟩, ringWord_of rfl rfl _ (by decide) (by decide), rfl, rfl, rfl, by decide, rfl, rfl,
      by decide, by decide, rfl, rfl⟩, ⟨rfl, rfl, rfl, by decide, rfl, by decide⟩⟩

/-- A lane missing at the expected word; a full-lane header at frame 1 while a word of frame 0 is expected; a rewrite of a
word of the frame. -/
theorem test_witness_FrameWordTaken_broken :
    let x : Assembler := { Assembler.start with state := .assemble, expected := 0x10008, collected := [header 0, 1] }
    let s := withAsm x opened
    s.takes ∧ s.ringWord plan 0 win (0x10008 : Addr).toNat ∧ s.ringWord plan 0 win (0x1000C : Addr).toNat ∧
      s.ringWord plan 0 win (0x10004 : Addr).toNat ∧ s.asm[0]? = some x ∧ x.state = .assemble ∧
      ((7 : Lanes) ≠ 15 ∨ (0x10008 : Addr).toNat ≠ x.expected) ∧ ((15 : Lanes) ≠ 15 ∨ (0x1000C : Addr).toNat ≠ x.expected) ∧
      win.startsFrame (0x1000C : Addr).toNat (header 9) ∧ ¬ ((7 : Lanes) = 15 ∧ win.startsFrame (0x10008 : Addr).toNat 1) := by
  refine ⟨⟨rfl, rfl, .inl (by decide)⟩, ringWord_of rfl rfl _ (by decide) (by decide),
    ringWord_of rfl rfl _ (by decide) (by decide), ringWord_of rfl rfl _ (by decide) (by decide), rfl, rfl, .inl (by decide),
    .inr (by decide), ⟨⟨1, by decide, by decide⟩, by decide, by decide, by decide⟩, fun h => absurd h.1 (by decide)⟩

/-- The last word of the last frame of the ring, with one slot EMPTY. -/
theorem test_witness_FrameCompletes :
    let x : Assembler :=
      { Assembler.start with
        state := .assemble, expected := 0x10014, collected := [header 255, 1], slot0 := some (frameOf 254 0), lastSeq := some 250,
        silenceTimer := some 5 }
    let s := withAsm x opened
    s.takes ∧ s.ringWord plan 0 win (0x10014 : Addr).toNat ∧ win.base % 4 = 0 ∧ s.asm[0]? = some x ∧ x.state = .assemble ∧
      (0x10014 : Addr).toNat = x.expected ∧ x.collected = header 255 :: [1] ∧ [(1 : Word)].length + 2 = win.frameWords ∧
      (x.slot0 = none ∨ x.slot1 = none) :=
  ⟨⟨rfl, rfl, .inl (by decide)⟩, ringWord_of rfl rfl _ (by decide) (by decide), by decide, rfl, rfl, rfl, rfl, by decide, .inr rfl⟩

/-- Slot 1 of window 0 completed before slot 0. -/
def stagedTwo (s : State) : State := withAsm { Assembler.start with slot0 := some (frameOf 2 9), slot1 := some (frameOf 1 8) } s

theorem stagedTwo_earliest {s : State} (hs : s.asm = List.replicate 4 .start ∨ ∃ x, s.asm = (List.replicate 4 Assembler.start).set 0 x) :
    ∀ j l g, (stagedTwo s).staged j l g → (j, l) ≠ (0, true) → (frameOf 1 8).order < g.order := by
  rintro j l g ⟨x, hx, hl⟩ hne
  have ha : (stagedTwo s).asm
      = [{ Assembler.start with slot0 := some (frameOf 2 9), slot1 := some (frameOf 1 8) }, .start, .start, .start] := by
    rcases hs with h | ⟨y, h⟩ <;> simp [stagedTwo, withAsm, State.setAsm, h, List.replicate]
  rw [ha] at hx
  match j, hx with
  | 0, hx =>
    simp only [List.getElem?_cons_zero, Option.some.injEq] at hx
    subst hx
    cases l
    · cases hl; decide
    · exact absurd rfl hne
  | 1, hx => cases hx; cases l <;> cases hl
  | 2, hx => cases hx; cases l <;> cases hl
  | 3, hx => cases hx; cases l <;> cases hl
  | n + 4, hx => simp at hx

theorem test_witness_FrameTaken :
    (stagedTwo armed).resetLow = false ∧ (stagedTwo armed).eval.busy = none ∧ (stagedTwo armed).tracker.state ≠ .opened ∧
      (stagedTwo armed).staged 0 true (frameOf 1 8) ∧
      (∀ j l g, (stagedTwo armed).staged j l g → (j, l) ≠ (0, true) → (frameOf 1 8).order < g.order) :=
  ⟨rfl, rfl, by decide, ⟨_, rfl, rfl⟩, stagedTwo_earliest (.inl rfl)⟩

/-- The last sample of the last scan, for both packings. -/
theorem test_witness_FrameLayout :
    (frameOf 0 0).words.length = win.frameWords ∧ 1 < win.scans ∧ win.chans[1]? = some 1 ∧ win.packing = .pair16 ∧
      ({ words := [0, 1, 2, 3, 4], order := 0 } : Frame).words.length = ({ win with packing := .solo24 } : WindowPlan).frameWords ∧
      ({ win with packing := .solo24 } : WindowPlan).packing = .solo24 := by decide

theorem test_witness_FrameTaken_opened :
    (stagedTwo opened).resetLow = false ∧ (stagedTwo opened).eval.busy = none ∧ (stagedTwo opened).runningPlan = some plan ∧
      (stagedTwo opened).tracker.state = .opened ∧ (stagedTwo opened).staged 0 true (frameOf 1 8) ∧ plan.windows[0]? = some win ∧
      (∀ j l g, (stagedTwo opened).staged j l g → (j, l) ≠ (0, true) → (frameOf 1 8).order < g.order) ∧
      (stagedTwo opened).eval.accums[1]? = some (.cleared 0) ∧ plan.channel 1 = some chanB ∧ plan.channel 63 = none ∧
      (opened.setEval { opened.eval with busy := some (0, true) }).eval.busy = some (0, true) :=
  ⟨rfl, rfl, rfl, rfl, ⟨_, rfl, rfl⟩, rfl, stagedTwo_earliest (.inr ⟨_, rfl⟩), by decide +kernel, by decide, by decide, rfl⟩

/-! ## Witnesses: the channel evaluator -/

/-- N at 65535; deviations at the threshold and one below it; the quiet run one short of HDT and reaching it. -/
theorem test_witness_DetectorRules :
    (sums 65535 0 0).n = 65535 ∧ (sums 65534 0 0).n ≠ 65535 ∧ chanV.kind = .vib ∧ chanB.kind ≠ .vib ∧
      (Accum.cleared 0).det.state = .quiet ∧ chanB.th ≤ 400 ∧ 399 < chanB.th ∧
      ({ Detector.start with state := .inHit, quiet := 1 } : Detector).state = .inHit ∧ 1 + 1 < chanB.hdt ∧
      chanB.hdt ≤ 2 + 1 := by decide

theorem test_witness_DetectorRules_lockout :
    let a := { Accum.cleared 0 with det := { Detector.start with state := .lockout, lockout := 2 } }
    a.det.state = .lockout ∧ [(8, 888)].length < a.det.lockout ∧ [(8, 888), (9, 3)].length = a.det.lockout ∧
      1 ≤ a.det.lockout := by decide

/-- As many samples as a window counts, at the lower end of the range. -/
theorem test_witness_VarianceAndRms :
    (∀ x ∈ List.replicate 65535 (-32768 : Int), -32768 ≤ x ∧ x ≤ 32767) ∧ (List.replicate 65535 (-32768 : Int)).length ≤ 65535 ∧
      List.replicate 65535 (-32768 : Int) ≠ [] ∧ 2 ^ 32 - 1 < 2 ^ 32 := by
  refine ⟨fun x hx => ?_, ?_, fun h => ?_, by decide⟩
  · rw [List.eq_of_mem_replicate hx]; decide
  · rw [List.length_replicate]
  · have := congrArg List.length h; rw [List.length_replicate] at this; exact absurd this (by decide)

def closeOf (a b : Accum) : State := withAccums a b (closingAt .pending)
def good1 : Accum := sums 16 320 108800

/-- Each test of R45 at its boundary: a latch, N one short, no sample, one clip too many, no clip limit, V = 0, and GOOD; a hit
in progress; channel 63, which the plan does not define. -/
theorem test_witness_ChannelClosed :
    let s := closeOf good1 good1
    let hit := closeOf { good1 with det := { Detector.start with state := .inHit } } good1
    (((withAsm { Assembler.start with silenceLatch := true } s).assembler (plan.windowOf 0)).silenceLatch = true ∧
      (s.assembler (plan.windowOf 0)).silenceLatch = false ∧
      ((closeOf (sums 15 0 0) good1).eval.accum chanV.number).n < chanV.nmin ∧
      1 ≤ chanV.nmin ∧ ((closeOf (sums 0 0 0) good1).eval.accum chanV.number).n = 0 ∧ 16 ≤ chanV.nmin ∧
      chanV.nmin ≤ (s.eval.accum chanV.number).n ∧
      chanV.clipLimit < ((closeOf { good1 with clips := 21 } good1).eval.accum chanV.number).clips ∧
      ((closeOf { good1 with clips := 20 } good1).eval.accum chanV.number).clips ≤ chanV.clipLimit ∧
      ({ chanV with clipLimit := 65535 } : ChannelPlan).clipLimit = 65535 ∧
      ((closeOf { good1 with clips := 65535 } good1).eval.accum chanV.number).clips ≤ 65535 ∧
      variance 16 1 1 = 0 ∧ variance (s.eval.accum 0).n (s.eval.accum 0).s1 (s.eval.accum 0).s2 ≠ 0 ∧
      (s.eval.accum 0).det.state ≠ .inHit ∧ (hit.eval.accum 0).det.state = .inHit) ∧
    (plan.channel 0 = some chanV ∧ 0 < 64 ∧ (closeChannel s plan chanV).outcome = .good ∧
      (closeChannel (closeOf (sums 15 0 0) good1) plan chanV).outcome ≠ .good) ∧
    (63 < 64 ∧ s.eval.accums.length = 64 ∧ plan.channel 63 = none) := by decide +kernel

/-! ## Witnesses: the cavity close -/

def results : List ChanResult := closeChannels (closeOf good1 good1) plan
def resultsFew : List ChanResult := closeChannels (closeOf good1 (sums 15 0 0)) plan

/-- A bound slot whose channel is GOOD, one whose channel is not, and no bound slot; slots with and without a ratio. -/
theorem test_witness_SlotTerms :
    suspect.bound = some 1 ∧ isGood results (cavP.chan 1) = true ∧ isGood resultsFew (cavP.chan 1) = false ∧ sound.bound = none ∧
      (∃ r, resultOf results (cavP.chan 0) = some r ∧ r.kind ≠ .ae ∧ r.kind = .vib ∧ 1 ≤ (sound.slot 0).n) ∧
      (∃ r, resultOf results (cavP.chan 1) = some r ∧ r.kind ≠ .vib) ∧ (sound.slot 2).n = 0 :=
  ⟨rfl, by decide +kernel, by decide +kernel, rfl,
    ⟨closeChannel (closeOf good1 good1) plan chanV, by decide +kernel, by decide, by decide, by decide⟩,
    ⟨closeChannel (closeOf good1 good1) plan chanB, by decide +kernel, by decide⟩, by decide⟩

theorem test_witness_RowMedian :
    ([65535, 0].length < 3 ∧ (3 ≤ [5, 65535, 0].length ∧ [5, 65535, 0].length % 2 = 1) ∧
      (4 ≤ [5, 65535, 0, 5].length ∧ [5, 65535, 0, 5].length % 2 = 0) ∧ [5, 65535, 0].Perm [65535, 5, 0] ∧
      (∀ x ∈ [5, 65535, 0], x ≤ 65535)) ∧
    (excluded.state = .excluded ∧ sound.state ≠ .excluded ∧ (cavityQ results cavP sound).isSome = true) ∧
    (let values := [(cavP, sound), (cavP, excluded)].filterMap fun x => if x.1.group = 0 then cavityQ results x.1 x.2 else none
     values.length = 1 ∧ values.Perm values) := by
  refine ⟨⟨by decide, by decide, by decide, List.Perm.swap _ _ _, by decide⟩, by decide +kernel, by decide +kernel, List.Perm.refl _⟩

/-- Two slots with equal unclamped sums above 255. -/
def tied : List SlotWork := [0, 1].map (slotWork results prof 0 cavP sound)

theorem test_witness_DominantSlot : tied.Pairwise (fun y z => y.slot < z.slot) ∧ (dominant tied).isSome = true := by
  decide +kernel

/-- A blind cavity; a SOUND and a LEARNING one with a dominant slot; slot 0 on a VIB channel is considered, slot 2 is not. -/
theorem test_witness_CavityJudged :
    let seen := fun c : CavityCtx => (dominant ((considered results cavP c).map (slotWork results prof 256 cavP c))).isSome = true
    (considered resultsFew { cavP with installed := 2 } suspect = []) ∧
      (sound.state ≠ .excluded ∧ seen sound ∧ sound.slots.length = 4 ∧ sound.state ≠ .learning) ∧
      (let c := { sound with state := .learning }
       c.state ≠ .excluded ∧ seen c ∧ c.state = .learning ∧ c.score = 0 ∧ c.slots.length = 4) ∧
      (0 ∈ considered results cavP sound ∧ (resultOf results (cavP.chan 0)).map (fun r => r.kind) = some .vib ∧
        2 ∉ considered results cavP sound) := by
  decide +kernel

/-- The top of the band at d = 8 and e = 255 is the largest score; d = 1 with scores below and above its band. -/
theorem test_witness_ScoreBand :
    (1 ≤ 8 ∧ 8 ≤ 8 ∧ 255 ≤ 255 ∧ 65535 ≤ 65535 ∧ 2 ^ 8 * 255 ≤ 65535 ∧ 65535 ≤ 2 ^ 8 * 255 + 2 ^ 8 - 1) ∧
      (1 ≤ 1 ∧ 509 < 2 ^ 1 * 255 ∧ 2 ^ 1 * 255 + 2 ^ 1 - 1 < 512) := by decide

/-- Every clause at its boundary scores: T3, T2, T1, one below them, the hold level and the return level. -/
theorem test_witness_StateSteps :
    (prof.h < prof.t1 ∧ prof.t1 < prof.t2 ∧ prof.t2 < prof.t3 ∧ 1 ≤ prof.confirmations) ∧
      (prof.t2 ≤ 600 ∧ prof.t1 ≤ 300 ∧ 599 < prof.t2 ∧ 299 < prof.t1 ∧ prof.t3 ≤ 1000 ∧ 999 < prof.t3 ∧
        prof.t1 - prof.h ≤ 250 ∧ 249 < prof.t1 - prof.h ∧ prof.t2 - prof.h ≤ 550 ∧ 549 < prof.t2 - prof.h) ∧
      (sound.state = .sound ∧ suspect.state = .suspect ∧ ({ sound with state := .watch } : CavityCtx).state = .watch ∧
        ({ suspect with state := .cracked } : CavityCtx).state = .cracked) ∧
      (2 ^ prof.w ≤ min 256 (3 + 1) ∧ min 256 (2 + 1) < 2 ^ prof.w) := by decide

theorem test_witness_BaselineUpdate :
    (2 ≤ 2 ∧ 2 ≤ 8 ∧ 8 ≤ 8 ∧ 32767 ≤ 32767 ∧ (⟨524288, 256⟩ : SlotCtx).b ≤ 524288) ∧ (⟨0, 0⟩ : SlotCtx).n = 0 := by decide

theorem sound_legal : sound.Legal cavP := by constructor <;> decide
theorem suspect_legal : suspect.Legal cavP := by constructor <;> decide
theorem excluded_legal : excluded.Legal cavP := by constructor <;> decide

theorem test_witness_CloseKeepsLegal :
    let c : Context := { ctx with cavities := [suspect, excluded] }
    prof.w ≤ 8 ∧ c.cavities.length = prof.cavities.length ∧ ∀ x ∈ prof.cavities.zip c.cavities, x.2.Legal x.1 := by
  refine ⟨by decide, rfl, fun x hx => ?_⟩
  have h : x = (cavP, suspect) ∨ x = (cavP, excluded) := by simpa [prof] using hx
  rcases h with rfl | rfl
  · exact suspect_legal
  · exact excluded_legal

/-! ## Witnesses: close processing, timers and lines -/

theorem test_witness_CloseProcessed :
    let s := closeOf good1 good1
    let k := withWork .restoreContext [0, 0xD000] .checked s
    (s.resetLow = false ∧ s.tracker.state = .closing ∧ s.closing.stage = .pending ∧ s.eval.busy = none ∧
      s.runningPlan = some plan ∧ s.tracker.active = some 0 ∧ plan.profiles[0]? = some prof ∧ s.table.contexts[0]? = some ctx) ∧
    (∀ w, s.mail.work = some w → w.phase ≠ .handed) ∧ (∀ w, k.mail.work = some w → w.phase ≠ .handed) := by
  refine ⟨⟨rfl, rfl, rfl, rfl, rfl, rfl, rfl, rfl⟩, nofun, ?_⟩
  rintro w h
  cases h
  decide

/-- The close at step 4, with `items` of it still to come, the report writer's entries and the queue of 31 entries. -/
def placing (items : List StepItem) (report : List ReportItem) : State :=
  let s := (closingAt .placing).setClosing { stage := .placing, items := items }
  withQueue (List.replicate 31 (.fetch 0x400 .dropped)) (s.setReport { s.report with items := report })

def lost0 : Notice := { kind := .channelLost, profile := some 0, subject := 0, cycle := 5, detail := 3 }

/-- The entry placed is a record word, or the producer index of a notice; behind it a notice of another block. What follows in step
4: a record word, a notice, a masked notice, a mark push with 7 and with 8 marks. -/
theorem test_witness_StepFourPlaced :
    let post : ReportItem := .post 0xA000 1 (some .closeStep)
    let rest : ReportItem := .rest [] (some .closeStep)
    let behind : ReportItem := .notice lost0 9 none
    let r : Ring := { base := 0x9000, size := 16, kindMask := 0x1FFE }
    let full := fun n (s : State) => s.setOut { s.out with marks := List.replicate n 6 }
    let masked := fun s : State => s.setReport { s.report with ring := some { r with kindMask := 0 } }
    (∀ x ∈ [[], [.post 0xA004 2], [.notice lost0], [.markPush 1 8]], ∀ h ∈ [post, rest],
      (placing x [h, behind]).resetLow = false ∧ (placing x [h, behind]).path.queue.length < 32 ∧
        (placing x [h, behind]).report.items = h :: [behind] ∧ (placing x [h, behind]).report.ring = some r ∧
        (placing x [h, behind]).closing.items = x ∧ (placing x [h, behind]).loader.run = .running) ∧
      (0 < r.size ∧ r.size ≤ 1024 ∧ (∀ j ∈ [behind], j.gate ≠ some .closeStep) ∧ (∃ j ∈ [post], j.gate = some .closeStep)) ∧
      (r.kindMask.getLsbD lost0.kind.code = true ∧ r.kindMask.getLsbD 12 = true) ∧
      (full 7 (placing [.markPush 1 8] [post])).out.marks.length < 8 ∧
      8 ≤ (full 8 (placing [.markPush 1 8] [post])).out.marks.length ∧
      (masked (placing [.notice lost0] [post])).report.ring = some { r with kindMask := 0 } ∧
      ({ r with kindMask := 0 } : Ring).kindMask.getLsbD lost0.kind.code = false ∧
      (placing [.notice lost0] []).closing.items ≠ [] ∧ (∃ i ∈ (placing [] [rest]).report.items, i.gate = some .closeStep) := by
  decide +kernel

/-- The state at step 6 with the mould of the active profile, and no deferred open to make. -/
theorem settles_same (w : StateWord) (u : State) (h : w.mould = prof.mouldId) (hd : u.tracker.deferredOpen = false) :
    ∃ z, StepSixGives plan w prof.mouldId u z := ⟨_, _, .inl ⟨h, rfl⟩, .inr ⟨.inl hd, rfl⟩⟩

/-- The last word of the same mould, with and without a deferred open to make, and of mould 7 (profile 1); a snapshot that
waits. -/
theorem test_witness_PublishSettles :
    let s := closingAt .placing
    let u := s.setReport { s.report with published := s.report.building, building := s.report.published }
    let flag := fun (x : State) => x.setTracker { x.tracker with deferredOpen := true, last := some ⟨.vibrate, 3, 6⟩ }
    let other := fun (x : State) => x.setTracker { x.tracker with deferredOpen := true, last := some ⟨.fill, 7, 6⟩ }
    let k := withWork .saveContext [0, 0xD000] .waiting s
    (s.resetLow = false ∧ s.tracker.state = .closing ∧ s.closing.stage = .placing ∧ s.closing.items = [] ∧
      (∀ i ∈ s.report.items, i.gate ≠ some .closeStep) ∧ s.runningPlan = some plan ∧ s.tracker.active = some 0 ∧
      plan.profiles[0]? = some prof ∧ s.tracker.last = some ⟨.demould, 3, 5⟩ ∧ s.mail.work = none) ∧
    (∃ z, StepSixGives plan ⟨.demould, 3, 5⟩ prof.mouldId u z) ∧
    ((flag s).tracker.last = some ⟨.vibrate, 3, 6⟩ ∧ ∃ z, StepSixGives plan ⟨.vibrate, 3, 6⟩ prof.mouldId (flag u) z ∧
      z.tracker.state = .opened) ∧
    ((other s).tracker.last = some ⟨.fill, 7, 6⟩ ∧ ∃ z, StepSixGives plan ⟨.fill, 7, 6⟩ prof.mouldId (other u) z) ∧
    (k.mail.work = some ⟨.saveContext, [0, 0xD000], .waiting⟩ ∧ k.closing.items = [] ∧ k.report.items = []) := by
  refine ⟨⟨rfl, rfl, rfl, rfl, nofun, rfl, rfl, rfl, rfl, rfl⟩, settles_same _ _ rfl rfl, ⟨rfl, ?_⟩, ⟨rfl, ?_⟩, rfl, rfl, rfl⟩
  · exact ⟨_, ⟨_, .inl ⟨rfl, rfl⟩, .inl ⟨0, ctx, rfl, rfl, rfl, rfl, rfl⟩⟩, rfl⟩
  · obtain ⟨x, hx, -⟩ := applies_7
      (((closingAt .placing).setTracker { (closingAt .placing).tracker with
          state := .armed, deferredOpen := true, last := some ⟨.fill, 7, 6⟩ }).setReport
        { (closingAt .placing).report with
          published := (closingAt .placing).report.building, building := (closingAt .placing).report.published }
        |>.setClosing { stage := .idle, items := [] }) rfl
    exact ⟨_, x, .inr ⟨by decide, hx⟩, .inr ⟨.inr (.inl (by decide)), rfl⟩⟩

theorem settles_placed (w : StateWord) (x : State) (h : w.mould = prof.mouldId) (hd : x.tracker.deferredOpen = false) :
    ∃ z, StepSixGives plan w prof.mouldId (settle x) z := settles_same w _ h (by rw [(settle_settled x).tracker]; exact hd)

/-- A SET PATH ENABLES, a SAVE CONTEXT, a checked image and a RELOAD PLAN that waited for publish. -/
theorem test_witness_WaitingWorkReleased :
    let s := closingAt .published
    let e := withWork .setPathEnables [0, 1, 15] .waiting s
    let v := withWork .saveContext [0, 0xD000] .waiting s
    let r := withWork .restoreContext [0, 0xD000] .checked s
    let l := withWork .reloadPlan [] .waiting s
    (s.resetLow = false ∧ s.tracker.state = .closing ∧ s.closing.stage = .published ∧
      s.runningPlan = some plan ∧ s.tracker.active = some 0 ∧ plan.profiles[0]? = some prof ∧ s.table.contexts[0]? = some ctx ∧
      s.tracker.last = some ⟨.demould, 3, 5⟩) ∧
    (e.mail.work = some { fn := .setPathEnables, args := [0, 1, 15], phase := .waiting } ∧ [0, 1, 15].take 2 = [0, 1] ∧
      e.hasCavity 0 1 excluded ∧ e.closing.stage = .published ∧ e.table.contexts[0]? = some ctx ∧
      ∃ z, StepSixGives plan ⟨.demould, 3, 5⟩ prof.mouldId (settle (e.cavityDone .setPathEnables [0, 1, 15] 0 1 excluded)) z) ∧
    (v.mail.work = some { fn := .saveContext, args := [0, 0xD000], phase := .waiting } ∧ v.closing.stage = .published ∧
      ∃ z, StepSixGives plan ⟨.demould, 3, 5⟩ prof.mouldId (settle (v.snapshot plan prof ctx .atPublish 0 0xD000)) z) ∧
    (r.mail.work = some { fn := .restoreContext, args := [0, 0xD000], phase := .checked } ∧ r.closing.stage = .published ∧
      ∃ z, StepSixGives plan ⟨.demould, 3, 5⟩ prof.mouldId (settle (r.committed prof 0 0xD000)) z) ∧
    (l.mail.work = some { fn := .reloadPlan, args := [], phase := .waiting } ∧ l.closing.stage = .published) :=
  ⟨⟨rfl, rfl, rfl, rfl, rfl, rfl, rfl, rfl⟩, ⟨rfl, rfl, ⟨ctx, rfl, rfl⟩, rfl, rfl, settles_placed _ _ rfl rfl⟩,
    ⟨rfl, rfl, settles_placed _ _ rfl rfl⟩, ⟨rfl, rfl, settles_placed _ _ rfl rfl⟩, ⟨rfl, rfl⟩⟩

/-- What the status word and the first words of notices in the ring show: address, and kind with profile. -/
def reports (s : State) : List (Nat × Nat) :=
  s.path.queue.filterMap fun e =>
    match e with
    | .post a w _ => if a = 0 ∨ (0x9000 ≤ a ∧ a % 16 = 0) then some (a, w.toNat % 65536) else none
    | .fetch _ _ => none

/-- R15, R142: a commit that a close or an abandon releases is reported, for profile 0, before mould 7 activates profile 1. -/
theorem test_released_work_of_R15 :
    let word := Instr.pressStateWord (oneWord 0x8000 0x00170009 15)
    let held := fun s : State => s.setTable { s.table with buf := (imageOf armed plan prof 0 .atOnce ctx) }
    let late := withWork .restoreContext [0, 0xD000] .checked (closingAt .published)
    reports (after word (held restoring)) = [(0x9000, 6), (0, 2), (0x9010, 10), (0x9020, 8 + 256)] ∧
      reports (after .waitingWorkReleased (held (late.setTracker { late.tracker with last := some ⟨.fill, 7, 9⟩ })))
        = [(0, 2), (0x9000, 10), (0x9010, 8 + 256)] := by decide +kernel

/-- OPEN with both timers at their limits; ARMED; NO PLAN with the retry timer at 2000; LOADING; a pulse at its width. -/
theorem test_witness_TimersCount :
    (opened.resetLow = false ∧ opened.runningPlan = some plan ∧ opened.tracker.state = .opened) ∧
      (armed.loader.run = .running ∧ armed.tracker.state ≠ .opened) ∧ noPlan.loader.run = .noPlan ∧
      State.reset.loader.run = .loading ∧
      (let s := armed.setOut { armed.out with pulse := some ⟨250, 250⟩ }
       s.resetLow = false ∧ s.out.pulse = some ⟨250, 250⟩ ∧ (⟨250, 250⟩ : Pulse).width ≤ (⟨250, 250⟩ : Pulse).count) :=
  ⟨⟨rfl, rfl, rfl⟩, ⟨rfl, by decide⟩, rfl, rfl, rfl, rfl, by decide⟩

/-- A close in which cavity 0 goes from SUSPECT to CRACKED. -/
def cracking : State := withCavities suspect excluded (closeOf good1 good1)

theorem test_witness_LatchSetOnlyByClose :
    let t := after .channelClose cracking
    exec .channelClose cracking = .next t ∧ cracking.out.stopLatch = false ∧ t.out.stopLatch = true ∧
      ((∀ k, cracking.mail.work = some k → k.phase ≠ .handed) ∧ cracking.runningPlan = some plan ∧ cracking.tracker.active = some 0 ∧
        plan.profiles[0]? = some prof ∧ prof.stopAction = true ∧ cracking.hasCavity 0 0 suspect ∧ suspect.state ≠ .cracked ∧
        ∃ w, t.hasCavity 0 0 w ∧ w.state = .cracked) := by
  have h : ((after .channelClose cracking).table.contexts[0]?.bind fun x => x.cavities[0]?.map fun w => w.state) = some .cracked := by
    decide +kernel
  refine ⟨rfl, rfl, by decide +kernel, nofun, rfl, rfl, rfl, rfl, ⟨_, rfl, rfl⟩, by decide, ?_⟩
  obtain ⟨x, hx, hy⟩ := Option.bind_eq_some_iff.1 h
  obtain ⟨w, hw, hs⟩ := Option.map_eq_some_iff.1 hy
  exact ⟨w, ⟨x, hx, hw⟩, hs⟩

/-! ## Witnesses: notices and banks -/

/-- The consumer word of anchor 000000h; values at the producer index, one past it, and a lane missing. -/
theorem test_witness_ConsumerWrite :
    let s := armed.setReport { armed.report with producer := 2, consumer := 15 }
    s.takes ∧ (0x48 : Addr).toNat = s.base + 0x48 ∧ s.runningPlan = some plan ∧ 0 < plan.ringSize ∧
      s.report.consumer < plan.ringSize ∧ s.report.producer < plan.ringSize ∧
      ((2 : Word).toNat < plan.ringSize ∧
        (((2 : Word).toNat : Int) - s.report.consumer) % plan.ringSize ≤ ((s.report.producer : Int) - s.report.consumer) % plan.ringSize) ∧
      ¬ ((15 : Lanes) = 15 ∧ (3 : Word).toNat < plan.ringSize ∧
        (((3 : Word).toNat : Int) - s.report.consumer) % plan.ringSize ≤ ((s.report.producer : Int) - s.report.consumer) % plan.ringSize) ∧
      ¬ ((15 : Lanes) = 15 ∧ (16 : Word).toNat < plan.ringSize) ∧ (noPlan.takes ∧ noPlan.loader.run ≠ .running) :=
  ⟨⟨rfl, rfl, .inl (by decide)⟩, rfl, rfl, by decide, by decide, by decide, by decide, by decide, by decide,
    ⟨rfl, rfl, .inl (by decide)⟩, by decide⟩

def someNotice : Notice := { kind := .captureFault, profile := some 3, subject := 65535, cycle := 65535, detail := 2 ^ 32 - 1 }

/-- A ring of 16 with the producer at its last entry, and a full ring; room for exactly five entries. -/
theorem test_witness_NoticePlaced :
    let r : Ring := { base := 0x9000, size := 16, kindMask := 0x1FFE }
    let s := withQueue (List.replicate 27 (.fetch 0x400 .dropped))
      (armed.setReport { armed.report with producer := 15, consumer := 3, overflow := 65535, items := [.notice someNotice 65535 none] })
    let full := s.setReport { s.report with consumer := 0 }
    (armed.loader.run = .running ∧ armed.report.ring = some r ∧ r.kindMask.getLsbD NoticeKind.captureFault.code = true ∧
      ({ r with kindMask := 0 } : Ring).kindMask.getLsbD NoticeKind.captureFault.code = false ∧ noPlan.loader.run ≠ .running) ∧
    (s.resetLow = false ∧ s.report.ring = some r ∧ s.report.items = [.notice someNotice 65535 none] ∧ s.closing.items = [] ∧
      s.path.queue.length + 5 ≤ 32 ∧ r.size ≤ 1024 ∧ s.report.producer < r.size ∧ s.report.consumer < r.size ∧
      s.report.overflow ≤ 65535 ∧ 65535 < 65536 ∧ someNotice.subject < 65536 ∧ someNotice.cycle < 65536 ∧
      someNotice.detail < 2 ^ 32 ∧ someNotice.profile.getD 0xFF < 256 ∧ (s.report.producer + 1) % r.size ≠ s.report.consumer) ∧
    (full.report.consumer < r.size ∧ (full.report.producer + 1) % r.size = full.report.consumer) := by
  decide +kernel

theorem test_witness_LiveWordsAndLines :
    let full := armed.setOut { armed.out with marks := List.replicate 8 9 }
    (∀ p, full.tracker.active = some p → p ≤ 3) ∧ full.out.marks.length ≤ 8 ∧ full.loader.plan = some plan ∧
      full.tracker.active = some 0 ∧ plan.profiles[0]? = some prof ∧ prof.mouldId ≤ 15 ∧ noPlan.tracker.active = none ∧
      (1 < 2 ∧ 31 < 32) ∧ (State.blank [] [] []).resetLow = true ∧ noPlan.out.stopHigh = none ∧
      armed.out.stopHigh = some true ∧ armed.resetLow = false := by
  refine ⟨fun p h => ?_, by decide, rfl, rfl, rfl, by decide, rfl, by decide, rfl, rfl, rfl, rfl⟩
  cases h
  decide

/-! ## Witnesses: the mailbox and the requests -/

def mailAt (m : MailState) (i : Nat) (s : State) : State :=
  s.setMail { s.mail with state := m, fn := 4, args := [0], expected := i, serial := 255 }

/-- Words 1 and 15, each mailbox state, the expected index, a lane missing, a word out of order, and index 15 without its
terminator. -/
theorem test_witness_RequestCollected :
    (mailAt .idle 2 armed).takes ∧ (mailAt .collecting 3 armed).takes ∧ (mailAt .taken 2 noPlan).takes ∧
      (1 ≤ 1 ∧ 1 ≤ 15 ∧ (4 : Addr).toNat = (mailAt .idle 2 armed).base + 4 * 1) ∧
      (1 ≤ 15 ∧ 15 ≤ 15 ∧ (0x3C : Addr).toNat = (mailAt .collecting 15 armed).base + 4 * 15) ∧
      (mailAt .idle 2 armed).mail.state = .idle ∧ (mailAt .collecting 3 armed).mail.state = .collecting ∧
      (mailAt .taken 2 noPlan).mail.state = .taken ∧ ¬ ((15 : Lanes) = 15 ∧ 2 = 1) ∧
      (3 ≠ 1 ∧ 3 = (mailAt .collecting 3 armed).mail.expected ∧ 3 ≠ 15 ∧ (5 : Word) ≠ 0xFFFFFFFF) ∧
      ((7 : Lanes) ≠ 15 ∧ (4 ≠ 1 ∧ 4 ≠ (mailAt .collecting 3 armed).mail.expected) ∧
        (15 = 15 ∧ 15 = (mailAt .collecting 15 armed).mail.expected ∧ (5 : Word) ≠ 0xFFFFFFFF)) :=
  ⟨⟨rfl, rfl, .inl (by decide)⟩, ⟨rfl, rfl, .inl (by decide)⟩, ⟨rfl, rfl, .inl (by decide)⟩, by decide, by decide, rfl, rfl, rfl,
    by decide, by decide, by decide⟩

def requested (fn : Word) (args : List Word) (s : State) : State :=
  s.setMail { s.mail with state := .collecting, fn := fn, args := args, expected := 2 + args.length, serial := 255 }

/-- Function 0Bh; SET PATH ENABLES with two arguments; without a plan; with a mask of 16; INCLUDE CAVITY of a SOUND cavity;
SET PATH ENABLES that passes; the terminator at index 15. -/
theorem test_witness_RequestTaken :
    (armed.takes ∧ 2 ≤ 2 ∧ 2 ≤ 15 ∧ (8 : Addr).toNat = armed.base + 4 * 2 ∧ (requested 0xB [] armed).mail.state = .collecting ∧
      (requested 0xB [] armed).mail.expected = 2 ∧ Fn.ofCode (0xB : Word).toNat = none) ∧
    ((0x3C : Addr).toNat = armed.base + 4 * 15 ∧ (requested 4 (List.replicate 13 0) armed).mail.expected = 15) ∧
    Fn.ofCode (4 : Word).toNat = some .setPathEnables ∧ [0, 0].length ≠ Fn.setPathEnables.arity ∧
    ([0, 1, 16].length = Fn.setPathEnables.arity ∧ noPlan.loader.run ≠ .running ∧ Fn.setPathEnables ≠ .reloadPlan ∧
      Fn.setPathEnables ≠ .setOverlay) ∧
    (armed.loader.run = .running ∧ rangesOk armed .setPathEnables [0, 1, 16] = false ∧
      rangesOk armed .includeCavity [0, 0] = true ∧ stateOk armed .includeCavity [0, 0] = false ∧
      rangesOk armed .setPathEnables [0, 1, 15] = true ∧ stateOk armed .setPathEnables [0, 1, 15] = true) :=
  ⟨⟨armed_takes, by decide, by decide, rfl, rfl, rfl, by decide⟩, ⟨rfl, rfl⟩, by decide, by decide, by decide,
    rfl, by decide, by decide, by decide, by decide, by decide⟩

theorem test_witness_RequestChecks :
    armed.runningPlan = some plan ∧ plan.profiles.length ≤ 4 ∧ (∀ w ∈ plan.windows, 0 < w.ringBytes) ∧
      (plan.profiles[1]?.map fun q => q.cavities.length) = some 2 ∧ Fn.saveContext ∈ [Fn.saveContext, .restoreContext] ∧
      noPlan.loader.run ≠ .running :=
  ⟨rfl, by decide, by decide, by decide, by decide, by decide⟩

/-- The last place of the queue: a TAKEN status, the status of a malformed request, a DONE status, and one that a CAVITY STATE
notice still holds back; while a step-4 entry is still to be placed. Room for exactly six entries, and the last ring entry. -/
theorem test_witness_StatusPlaced :
    let room := withQueue (List.replicate 31 (.fetch 0x400 .dropped)) armed
    let mail := fun items => room.setMail { room.mail with state := .taken, items := items }
    let held := (mail [.done .ok .none]).setReport { armed.report with items := [.notice lost0 0 (some .mailbox)] }
    let late := (mail [.done .ok .none]).setClosing { stage := .placing, items := [.markPush 1 8] }
    ((mail []).resetLow = false ∧ (mail []).path.queue.length < 32 ∧ (mail []).closing.items = [] ∧ (mail []).mail.items = []) ∧
      ((mail [.taken 1, .done .ok .none]).mail.items = .taken 1 :: [.done .ok .none] ∧
        (mail [.finished 2 255 .malformed]).mail.items = .finished 2 255 .malformed :: [] ∧
        (mail [.done .ok .none]).mail.items = .done .ok .none :: [] ∧
        (∀ i ∈ (mail [.done .ok .none]).report.items, i.gate ≠ some .mailbox)) ∧
      (held.mail.items = .done .ok .none :: [] ∧ ∃ i ∈ held.report.items, i.gate = some .mailbox) ∧
      (∃ i ∈ (late.setReport { late.report with items := [.post 0xA000 1 (some .closeStep)] }).report.items,
        i.gate = some .closeStep) ∧
      (let s := withQueue (List.replicate 26 (.fetch 0x400 .dropped)) (withWork .setOverlay [1] .done armed)
       let t := (s.setMail { s.mail with items := [.done .ok .none], serial := 255 }).setReport
         { s.report with producer := 15, consumer := 3, overflow := 65535, seq := 65535 }
       let r : Ring := { base := 0x9000, size := 16, kindMask := 0x1FFE }
       t.mail.items = [.done .ok .none] ∧ t.report.items = [] ∧ t.closing.items = [] ∧ t.table.items = [] ∧ t.eval.dump = [] ∧
         t.loader.items = [] ∧ t.path.queue.length + 6 ≤ 32 ∧ t.loader.run = .running ∧ t.report.ring = some r ∧
         r.kindMask.getLsbD NoticeKind.requestDone.code = true ∧ r.size ≤ 1024 ∧ t.report.producer < r.size ∧
         (t.report.producer + 1) % r.size ≠ t.report.consumer ∧ t.report.overflow ≤ 65535 ∧ t.report.seq < 65536 ∧
         t.tracker.openCycle < 65536 ∧ t.mail.serial < 256 ∧ t.tracker.active = some 0) := by decide +kernel

theorem test_witness_ShortRequests :
    (let s := withWork .releaseCavity [0, 0, 1] .handed (withCavities suspect excluded armed)
     s.handed .releaseCavity [0, 0, 1] ∧ s.hasCavity 0 0 suspect) ∧
    (let s := withWork .releaseCavity [0, 0, 0] .handed (withCavities suspect excluded armed)
     s.handed .releaseCavity [0, 0, 0] ∧ s.hasCavity 0 0 suspect) ∧
    (let s := withWork .excludeCavity [0, 1] .handed armed
     s.handed .excludeCavity [0, 1] ∧ s.hasCavity 0 1 excluded ∧ excluded.state = .excluded) ∧
    (let s := withWork .includeCavity [1, 1] .handed armed
     s.handed .includeCavity [1, 1] ∧ s.hasCavity 1 1 excluded) :=
  ⟨⟨⟨rfl, rfl⟩, _, rfl, rfl⟩, ⟨⟨rfl, rfl⟩, _, rfl, rfl⟩, ⟨⟨rfl, rfl⟩, ⟨_, rfl, rfl⟩, rfl⟩, ⟨rfl, rfl⟩, _, rfl, rfl⟩

theorem test_witness_ShortRequests_items :
    (let s := withWork .setPathEnables [0, 1, 5] .handed armed
     s.handed .setPathEnables [0, 1, 5] ∧ s.hasCavity 0 1 excluded) ∧
    (withWork .acknowledgeStop [] .handed armed).handed .acknowledgeStop [] ∧
    ((withWork .setOverlay [0] .handed noPlan).handed .setOverlay [0] ∧ 0 ≤ 1) ∧
    ((withWork .setOverlay [1] .handed noPlan).handed .setOverlay [1] ∧ 1 ≤ 1) :=
  ⟨⟨⟨rfl, rfl⟩, _, rfl, rfl⟩, ⟨rfl, rfl⟩, ⟨⟨rfl, rfl⟩, by decide⟩, ⟨rfl, rfl⟩, by decide⟩

/-- A dump of a held set with an entry for channel 1, of window 0, and none for channel 63. -/
theorem test_witness_AreaRequests :
    let x : HeldEntry := ⟨65535, 32767, 255, 65535, 65535, 65535, some .clipped, true⟩
    let h := (heldSet []).set 1 x
    let d := (withWork .dumpChannels [0xD000] .handed armed).setEval { armed.eval with held := some h }
    (armed.loader.plan = some plan ∧
      ((withWork .saveContext [1, 0xD000] .handed armed).handed .saveContext [1, 0xD000] ∧ armed.table.contexts[1]? = some ctx ∧
        (plan.profiles[1]?).isSome = true) ∧
      (withWork .restoreContext [0, 0xD000] .handed armed).handed .restoreContext [0, 0xD000]) ∧
    (d.loader.plan = some plan ∧ d.handed .dumpChannels [0xD000] ∧ d.eval.held = some h) ∧
    (h.length = 64 ∧ h[1]? = some x ∧ plan.channel 1 = some chanB ∧ x.outcome = some .clipped ∧ 0 ≤ 3 ∧
      plan.windows[0]? = some win ∧ 1 ∈ win.chans ∧
      (x.n ≤ 65535 ∧ x.rms ≤ 65535 ∧ x.hits ≤ 65535 ∧ x.qualified ≤ 255 ∧ x.peak ≤ 65535 ∧ x.clips ≤ 65535)) ∧
    (h[63]?.map (fun y => y.outcome) = some none ∧ plan.channel 63 = none ∧ 3 < 4) :=
  ⟨⟨rfl, ⟨⟨rfl, rfl⟩, rfl, rfl⟩, ⟨rfl, rfl⟩⟩, ⟨rfl, ⟨rfl, rfl⟩, rfl⟩, by decide +kernel, by decide +kernel⟩

theorem test_witness_LoadBegins :
    (let s := withWork .reloadPlan [] .handed armed
     s.handed .reloadPlan [] ∧ s.loader.run = .running ∧ s.tracker.state = .armed) ∧
    (let s := withWork .reloadPlan [] .handed opened
     s.handed .reloadPlan [] ∧ s.loader.run = .running ∧ s.tracker.state = .opened) ∧
    (let s := withWork .reloadPlan [] .handed (closingAt .placing)
     s.handed .reloadPlan [] ∧ s.loader.run = .running ∧ s.tracker.state = .closing) ∧
    (let s := withWork .reloadPlan [] .handed noPlan
     s.handed .reloadPlan [] ∧ s.loader.run ≠ .running) ∧
    (noPlan.resetLow = false ∧ noPlan.loader.run = .noPlan ∧ noPlan.loader.retry = some 2000 ∧ 2000 ≤ 2000) :=
  ⟨⟨⟨rfl, rfl⟩, rfl, rfl⟩, ⟨⟨rfl, rfl⟩, rfl, rfl⟩, ⟨⟨rfl, rfl⟩, rfl, rfl⟩, ⟨⟨rfl, rfl⟩, by decide⟩, rfl, rfl, rfl, by decide⟩

theorem ctx_legal : Context.Legal prof ctx := by
  refine ⟨rfl, fun x hx => ?_, by decide, by decide⟩
  have h : x = (cavP, sound) ∨ x = (cavP, excluded) := by simpa [prof, ctx] using hx
  rcases h with rfl | rfl
  · exact sound_legal
  · exact excluded_legal

theorem test_witness_ImageRoundTrip :
    3 ≤ 3 ∧ prof.cavities.length ≤ 48 ∧ ({ prof with layoutSerial := 65535 } : ProfilePlan).layoutSerial < 65536 ∧
      Context.Legal { prof with layoutSerial := 65535 } ctx ∧
      (plan.serial < 65536 ∧ armed.tracker.openCycle < 65536 ∧ armed.mail.serial < 256 ∧ prof.mouldId ≤ 15) := by
  refine ⟨by decide, by decide, by decide, ⟨rfl, ctx_legal.cavities, by decide, by decide⟩, by decide⟩

/-- Both halves of a channel mask, the last cavity, and its last slot. -/
theorem test_witness_ImageChecks :
    (0 < 32 ∧ 31 < 32) ∧ prof.cavities[1]? = some cavP ∧ 3 < 4 ∧ 0 ∈ prof.chans ∧ 63 ∉ prof.chans := by decide +kernel

/-! ## Witnesses: the outbound queue and plan loads -/

theorem test_witness_EntriesPlacedAndPerformed :
    let waiting := fun s : State => s.setPath { s.path with held := [.write (oneWord 0x2000 5 15), .read ⟨0x2000, 1⟩] }
    let load := withQueue [.fetch 0x408 .planLoader]
      (noPlan.setLoader { noPlan.loader with run := .loading, phase := .header, buf := [1, 2] })
    let body := load.setLoader { load.loader with phase := .body 5, buf := [1, 2, 3] }
    let image := withQueue [.fetch 0xD000 .contextTable] (withWork .restoreContext [0, 0xD000] .reading armed)
    let room := withQueue (List.replicate 31 (.fetch 0x400 .dropped)) armed
    ((withQueue [.post 0x2000 5 7] armed).path.queue = .post 0x2000 5 7 :: [] ∧ armed.path.held = [] ∧ memWf armed.mem = true) ∧
    (∀ s ∈ [withQueue [.post 0x2000 5 7] armed, load, image], (waiting s).resetLow = false ∧
      (waiting s).path.held = [.write (oneWord 0x2000 5 15), .read ⟨0x2000, 1⟩] ∧ (waiting s).path.queue = s.path.queue ∧
      ∀ x ∈ (waiting s).path.held, x.ok = true) ∧
    (load.path.queue = .fetch 0x408 .planLoader :: [] ∧ load.path.held = [] ∧ load.loader.phase = .header ∧ load.loader.buf.length < 3 ∧
      body.loader.phase = .body 5 ∧ body.loader.buf.length + 1 < 5) ∧
    (image.path.queue = .fetch 0xD000 .contextTable :: [] ∧ image.loader.plan = some plan ∧
      image.mail.work = some { fn := .restoreContext, args := [0, 0xD000], phase := .reading } ∧ plan.profiles[0]? = some prof ∧
      image.table.buf.length + 1 < 8 + 6 * prof.cavities.length + prof.chans.length) ∧
    (room.resetLow = false ∧ room.path.queue.length < 32 ∧ room.closing.items = [] ∧ room.report.items = [] ∧
      32 ≤ (withQueue (List.replicate 32 (.fetch 0x400 .dropped)) armed).path.queue.length) ∧
    (let e : Entry := .post 0xD3FC 0 0
     (room.setTable { room.table with items := [e, e] }).table.items = e :: e :: [] ∧
      (room.setEval { room.eval with dump := [e, e] }).eval.dump = e :: e :: [] ∧
      (room.setLoader { room.loader with items := [.fetch 0x400 .planLoader] }).loader.items = .fetch 0x400 .planLoader :: [] ∧
      (let s := withWork .saveContext [0, 0xD000] .placing (room.setTable { room.table with items := [e] })
       s.table.items = [e] ∧ s.mail.work = some { fn := .saveContext, args := [0, 0xD000], phase := .placing }) ∧
      (let s := withWork .dumpChannels [0xD000] .placing (room.setEval { room.eval with dump := [e] })
       s.eval.dump = [e] ∧ s.mail.work = some { fn := .dumpChannels, args := [0xD000], phase := .placing })) := by
  refine ⟨⟨rfl, rfl, rfl⟩, by decide +kernel, ⟨rfl, rfl, rfl, by decide, rfl, by decide⟩, ⟨rfl, rfl, rfl, rfl, by decide⟩,
    ⟨rfl, by decide, rfl, rfl, by decide⟩, rfl, rfl, rfl, ⟨rfl, rfl⟩, rfl, rfl⟩

/-- The image of profile 0's context, with its last word still to be fetched. -/
def image : List Word := imageOf armed plan prof 0 .atOnce ctx

def imageRead (buf : List Word) (s : State) : State :=
  (((withQueue [.fetch 0xD054 .contextTable] (withWork .restoreContext [0, 0xD000] .reading s)).setTable
    { s.table with buf := buf }).setMem (writeWord [] 0xD054 (image.getD 21 0)))

/-- An image that passes, while ARMED on its profile and on the other one, and while OPEN; a wrong identifier; an illegal state
code. -/
theorem test_witness_ImageJudged :
    let buf := image.take 21
    let s := imageRead buf armed
    image.length = 22 ∧ s.resetLow = false ∧ s.path.queue = .fetch 0xD054 .contextTable :: [] ∧ s.path.held = [] ∧
      s.loader.plan = some plan ∧ s.mail.work = some { fn := .restoreContext, args := [0, 0xD000], phase := .reading } ∧
      plan.profiles[0]? = some prof ∧ s.table.buf.length + 1 = 8 + 6 * prof.cavities.length + prof.chans.length ∧
      imageHeaderOk prof 0 (buf ++ [readWord s.mem 0xD054]) = true ∧ imageFieldsOk prof (buf ++ [readWord s.mem 0xD054]) = true ∧
      imageHeaderOk prof 0 (buf.set 0 0 ++ [readWord s.mem 0xD054]) = false ∧
      imageFieldsOk prof (buf.set 8 0xF ++ [readWord s.mem 0xD054]) = false ∧
      ((imageRead buf opened).tracker.active = some 0 ∧ (imageRead buf opened).tracker.state = .opened) ∧
      (s.setTracker { s.tracker with active := some 1 }).tracker.active ≠ some 0 ∧
      (s.tracker.active = some 0 ∧ s.tracker.state = .armed ∧ 0 < s.table.contexts.length) := by decide +kernel

def halves (lo hi : Nat) : Word := BitVec.ofNat 32 (lo + hi * 65536)

/-- The words of a plan with one window, two channels and one profile of one cavity, and one word beyond its sections. -/
def planImage : List Word :=
  [0x474C4A50, 1, 41, 7, halves 0x11 0, 0x8000, halves 1000 50, 0x109, 0x9000, 16, 0x1FFE] ++
  [0x10000, 0x02010002, 0x101, 0x100, 0, 0, 0] ++
  [2, halves 0x100 16, halves 100 10, halves 5 5, 2, halves 0x301 16, halves 100 10, halves 2 3, 2] ++
  [halves 0x103 0x201, halves 77 10, halves 100 200, halves 300 50, 0x0202010F, 0x301, 0xA000, 0x00030300, 0x100, 0xB000] ++
  List.replicate 4 0

/-- The load of `planImage` with its last word, a zero, still to be fetched. -/
def lastFetch : State :=
  withQueue [.fetch 0x4A0 .planLoader]
    (noPlan.setLoader { Loader.start with phase := .body 41, buf := planImage.take 40 })

def judged (ws : List Word) (n : Nat) : Option (Nat × PlanFault) :=
  match judgePlan ws n 0 with
  | .ok x => some (x.2, .none)
  | .error f => some (0, f)

theorem judge_accepts : ∃ x, judgePlan (planImage.take 40 ++ [readWord lastFetch.mem 0x4A0]) 41 lastFetch.base = .ok x := by
  have h : (match judgePlan (planImage.take 40 ++ [readWord lastFetch.mem 0x4A0]) 41 lastFetch.base with
    | .ok _ => true
    | .error _ => false) = true := by decide +kernel
  revert h
  cases judgePlan (planImage.take 40 ++ [readWord lastFetch.mem 0x4A0]) 41 lastFetch.base with
  | ok x => exact fun _ => ⟨x, rfl⟩
  | error f => exact fun h => by cases h

/-- The mailbox holds no request; a RELOAD PLAN that began the load, and one handed over since; a SET OVERLAY handed over; a DONE
status still to be placed. -/
theorem test_witness_PlanAccepted :
    let r := withWork .reloadPlan [] .loading lastFetch
    let h := withWork .reloadPlan [] .handed lastFetch
    let o := withWork .setOverlay [1] .handed lastFetch
    let d := (withWork .setOverlay [1] .done lastFetch).setMail
      { (withWork .setOverlay [1] .done lastFetch).mail with items := [.taken 1] ++ [.done .ok .none] }
    (lastFetch.resetLow = false ∧ lastFetch.path.queue = .fetch 0x4A0 .planLoader :: [] ∧ lastFetch.path.held = [] ∧
      lastFetch.loader.phase = .body 41 ∧ lastFetch.loader.buf.length + 1 = 41 ∧
      ∃ pl k, judgePlan (lastFetch.loader.buf ++ [readWord lastFetch.mem 0x4A0]) 41 lastFetch.base = .ok (pl, k)) ∧
      (lastFetch.mail.state ≠ .taken ∧ lastFetch.mail.work = none ∧ ∀ i ∈ lastFetch.mail.items, i.isDone = false) ∧
      (r.mail.state = .taken ∧ r.mail.work = some { fn := .reloadPlan, args := [], phase := .loading }) ∧
      (h.mail.state = .taken ∧ h.mail.work = some { fn := .reloadPlan, args := [], phase := .handed }) ∧
      (o.mail.work = some { fn := .setOverlay, args := [1], phase := .handed } ∧ ∀ i ∈ o.mail.items, i.isDone = false) ∧
      (d.mail.work = some { fn := .setOverlay, args := [1], phase := .done } ∧ d.mail.items = [.taken 1] ++ [.done .ok .none] ∧
        ∀ i ∈ [MailItem.taken 1], i.isDone = false) := by
  obtain ⟨x, hx⟩ := judge_accepts
  exact ⟨⟨rfl, rfl, rfl, rfl, by decide, x.1, x.2, hx⟩, ⟨by decide, rfl, nofun⟩, ⟨rfl, rfl⟩, ⟨rfl, rfl⟩, ⟨rfl, nofun⟩, rfl, rfl,
    by decide⟩

/-- A wrong identifier, a length of 3, 4 and 2049, a header that passes with length 5 and 2048; a plan with T1 = T2. -/
theorem test_witness_LoadProceeds :
    let head := fun w0 w2 : Word =>
      withQueue [.fetch 0x40C .planLoader] (noPlan.setLoader { Loader.start with phase := .header, buf := [w0, 1, w2] })
    ((head 1 5).resetLow = false ∧ (head 1 5).path.queue = .fetch 0x40C .planLoader :: [] ∧ (head 1 5).path.held = [] ∧
      (head 1 5).loader.phase = .header ∧ (head 1 5).loader.buf ++ [readWord (head 1 5).mem 0x40C] = [1, 1, 5, 0] ∧
      (1 : Word) ≠ 0x474C4A50) ∧
    ((head 0x474C4A50 3).loader.buf ++ [readWord (head 0x474C4A50 3).mem 0x40C] = [0x474C4A50, 1, 3, 0] ∧
      (1 : Word).toNat % 65536 = 1 ∧ (3 : Word).toNat % 65536 ≤ 4 ∧ (4 : Word).toNat % 65536 ≤ 4 ∧ 2048 < (2049 : Word).toNat % 65536 ∧
      4 < (5 : Word).toNat % 65536 ∧ (2048 : Word).toNat % 65536 ≤ 2048) ∧
    (judged (planImage.set 29 (halves 100 100)) 41 = some (0, .profile) ∧ lastFetch.loader.phase = .body 41 ∧
      (planImage.set 29 (halves 100 100)).length = 41) := by
  refine ⟨⟨rfl, rfl, rfl, rfl, by decide, by decide⟩, ⟨by decide, by decide⟩, by decide +kernel, rfl, by decide⟩

/-- The section of `planImage` ends at word 37; with length 36 it does not fit. Each check failing: no scan, an undefined packing
code, a channel kind of 4, a record mode of 3, T1 = T2, a slot on an undefined channel, a ring of 17 entries, a record area on
the notice ring; and a plan that passes with one tuning value out of range. -/
theorem test_witness_PlanJudged :
    let bad := fun (i : Nat) (w : Word) => judged (planImage.set i w) 41
    (planSections planImage 37 = some [27] ∧ planSections planImage 36 = none) ∧
      [bad 12 0x02000002, bad 13 0x103, bad 19 (halves 0x400 16), bad 32 0x303, bad 29 (halves 100 100), bad 35 0x102, bad 9 17,
          bad 33 0x9000]
        = [some (0, .window), some (0, .window), some (0, .channel), some (0, .profile), some (0, .profile), some (0, .cavity),
          some (0, .ring), some (0, .address)] ∧
      bad 6 (halves 50 50) = some (1, .none) := by decide +kernel

theorem test_witness_AcceptedPlanInRange :
    ∃ pl k, judgePlan (planImage.take 40 ++ [readWord lastFetch.mem 0x4A0]) 41 lastFetch.base = .ok (pl, k) := by
  obtain ⟨x, hx⟩ := judge_accepts
  exact ⟨x.1, x.2, hx⟩

/-! ## Witnesses: the whole machine -/

def ticking : State := armed.setPending [.lineTick]

theorem test_witness_StepKeepsBounds :
    step ticking = .next (after .lineTick armed) ∧ ticking.Bounded ∧ ticking.NoneOverwritten :=
  ⟨rfl, ⟨rfl, by decide, by decide, by decide, rfl, by decide⟩, ⟨rfl, rfl, rfl, rfl⟩⟩

theorem test_witness_StepKeepsConsistency :
    step ticking = .next (after .lineTick armed) ∧ ticking.Consistent ∧ ticking.RingSound := by
  refine ⟨rfl, ⟨by decide, by decide, by decide, rfl, ?_, by decide, by decide, by decide, by decide, by decide,
    by decide, by decide⟩, ?_, ?_⟩
  · intro p h; cases h; decide
  · intro pl h; cases h; rfl
  · intro r h; cases h; decide

theorem test_witness_StepKeepsLegal : step ticking = .next (after .lineTick armed) ∧ ticking.LegalContexts := by
  refine ⟨rfl, ?_, ?_, ?_, nofun, fun w _ _ h => nomatch (h : (none : Option Work) = some w)⟩
  · intro pl h
    cases h
    decide
  · intro pl p q c h hq hc
    cases h
    match p, hq, hc with
    | 0, hq, hc => cases hq; cases hc; exact ctx_legal
    | 1, hq, hc => cases hq; cases hc; exact ⟨rfl, ctx_legal.cavities, by decide +kernel, by decide⟩
    | n + 2, hq, _ => exact absurd hq (by simp [plan])
  · intro a ha
    have : a = Accum.cleared 0 := by
      have ha' : a ∈ List.replicate 64 (Accum.cleared 0) := ha
      exact List.eq_of_mem_replicate ha'
    subst this
    decide

/-- A performed FETCH while a read is held, and a tick while a write is held. -/
theorem test_witness_MemoryChangedByPortOnly :
    let s := (withQueue [.fetch 0x400 .dropped] armed).setPath
      { armed.path with queue := [.fetch 0x400 .dropped], held := [.read ⟨0x400, 1⟩] }
    let u := armed.setPath { armed.path with held := [.write (oneWord 4 1 15)] }
    (exec .fetchPerformed s = .next (after .fetchPerformed s) ∧ ∀ b, Txn.write b ∉ s.path.held) ∧
      (exec .lineTick u = .next (after .lineTick u) ∧ ¬ (Instr.lineTick = .fetchPerformed ∨ Instr.lineTick = .resetAsserted false)) ∧
      (∀ c ∈ [Instr.fetchPerformed, .lineTick],
        (∀ b, c ≠ .controllerWrite b ∧ c ≠ .pressStateWord b ∧ c ≠ .captureRingWrite b ∧ c ≠ .noticeConsumerWrite b ∧
          c ≠ .mailboxWordWrite b) ∧ c ≠ .postPerformed ∧ c ≠ .resetAsserted true) := by
  refine ⟨⟨rfl, fun b h => ?_⟩, ⟨rfl, by decide⟩, fun c hc => ?_⟩
  · simp [State.setPath] at h
  · simp only [List.mem_cons, List.not_mem_nil, or_false] at hc
    rcases hc with rfl | rfl <;> exact ⟨fun _ => ⟨nofun, nofun, nofun, nofun, nofun⟩, by decide, by decide⟩

/-- The outcome of cavity 0 at the close of `cracking`: SUSPECT to CRACKED, judged on its bound slot 1 alone. -/
def crackedOut : CavOut := closeCavity results prof (fun _ => 65535) 47 cavP { suspect with score := 65535 }

/-- The last window's counts at 255, the last profile, the largest cycle numbers and medians. -/
theorem test_witness_BankWords :
    let x : Assembler := { Assembler.start with overrun := 255, broken := 255, gap := 255, silenceLatch := true }
    let s := (armed.setTracker { armed.tracker with openCycle := 65535, last := some ⟨.idle, 3, 65535⟩ }).setAsm (armed.asm.set 3 x)
    (ctx.cavities.length ≤ 48 ∧ [crackedOut].length ≤ 48 ∧ 3 ≤ 3 ∧ s.tracker.openCycle < 65536 ∧ 65535 ≤ 65535 ∧
      s.asm.length = 4 ∧ (∀ y ∈ s.asm, y.overrun ≤ 255 ∧ y.broken ≤ 255 ∧ y.gap ≤ 255) ∧
      (s.tracker.last.map fun w => w.cycle) = some 65535 ∧ 65535 < 65536 ∧ ctx.cavities[1]? = some excluded ∧
      (ctx.cavities.length ≤ 2 ∧ 2 < 48) ∧ 3 < 4 ∧ (1 < 2 ∧ 31 < 32) ∧ s.asm[3]? = some x) ∧
    (({ suspect with score := 65535, confirm := 7 } : CavityCtx).score ≤ 65535 ∧ suspect.bound = some 1) := by decide +kernel

theorem test_witness_RecordWords :
    let long := { prof with recordFormat := .long, recordMode := .onChange }
    (crackedOut.before.state ≠ .excluded ∧ (long.recordMode = .onChange ∧ crackedOut.before.state ≠ crackedOut.after.state)) ∧
      prof.recordMode = .none ∧
      (3 ≤ 3 ∧ armed.tracker.openCycle < 65536 ∧ crackedOut.evidence ≤ 255 ∧ crackedOut.v ≤ 255 ∧ crackedOut.a ≤ 255 ∧
        crackedOut.number < 48 ∧ crackedOut.median ≤ 65535 ∧ crackedOut.q.getD 0 ≤ 65535 ∧ crackedOut.before.score ≤ 65535 ∧
        (∀ r ∈ results, r.number < 64 ∧ r.rms ≤ 32767 ∧ r.acc.qualified ≤ 255 ∧ r.acc.peak ≤ 65535)) ∧
      (crackedOut.after.reported = some 1 ∧ (resultOf results (cavP.chan 1)).isSome = true) ∧
      (long.recordFormat = .long ∧ crackedOut.slots.Pairwise (fun x y => x.slot < y.slot) ∧
        (∀ x ∈ crackedOut.slots, x.slot ≠ 0) ∧ outcomeAt results (crackedOut.plan.chan 0) = some .good ∧
        crackedOut.plan.has 3 = false ∧
        (crackedOut.slots.map fun x => x.slot) = [1] ∧ (∀ x ∈ crackedOut.slots, x.ratio.getD 0 ≤ 65535)) := by decide +kernel

end Sys2Proof.Tests
end

section
/-! PROOFS. The layout of a frame (R16 to R18): what a word's halves and its low 24 bits spell, which word of a scan holds
which sample, and which scan of the frame. -/

namespace Sys2Proof.Machine

/-! ## The samples of one word -/

/-- A 16-bit field read as a signed number is the two's complement value of those bits. -/
theorem signed16_bitsAt (d : Word) (lo : Nat) : signed16 (bitsAt d lo 16) = (d.extractLsb' lo 16).toInt := by
  have hn : (d.extractLsb' lo 16).toNat = bitsAt d lo 16 := BitVec.extractLsb'_toNat lo 16 d
  have hlt : bitsAt d lo 16 < 2 ^ 16 := Nat.mod_lt _ (by decide)
  rw [BitVec.toInt_eq_toNat_cond, hn, signed16]
  split <;> split <;> omega

/-- A 24-bit field read as a signed number is the two's complement value of those bits. -/
theorem signed24_bitsAt (d : Word) (lo : Nat) : signed24 (bitsAt d lo 24) = (d.extractLsb' lo 24).toInt := by
  have hn : (d.extractLsb' lo 24).toNat = bitsAt d lo 24 := BitVec.extractLsb'_toNat lo 24 d
  have hlt : bitsAt d lo 24 < 2 ^ 24 := Nat.mod_lt _ (by decide)
  rw [BitVec.toInt_eq_toNat_cond, hn, signed24]
  split <;> split <;> omega

/-- The reduction of R18; division by a positive number rounds toward minus infinity. -/
theorem soloSample_eq (d : Word) : soloSample d = (d.extractLsb' 0 24).toInt / 256 := by
  rw [soloSample, signed24_bitsAt, Int.fdiv_eq_ediv_of_nonneg _ (by decide)]

/-- The half of a PAIR16 word that is the sample of list position `j` (R17). -/
def halfSample (h : HalfOrder) (j : Nat) (d : Word) : Int :=
  if (j % 2 = 0) = (h = .firstLow) then (d.extractLsb' 0 16).toInt else (d.extractLsb' 16 16).toInt

theorem halfSample_add_two (h : HalfOrder) (j : Nat) : halfSample h (j + 2) = halfSample h j := by
  funext d
  simp only [halfSample, Nat.add_mod_right]

theorem pairSamples_eq (h : HalfOrder) (d : Word) : pairSamples h d = [halfSample h 0 d, halfSample h 1 d] := by
  cases h <;> simp [pairSamples, halfSample, signed16_bitsAt]

/-! ## The samples of one scan -/

/-- Word after word, two samples each: list position `j` is in word `j / 2` (R17). -/
theorem flatMap_pairSamples_getElem? (h : HalfOrder) (words : List Word) (j : Nat) :
    (words.flatMap (pairSamples h))[j]? = words[j / 2]?.map (halfSample h j) := by
  induction words generalizing j with
  | nil => simp
  | cons d ds ih =>
    rw [List.flatMap_cons, pairSamples_eq]
    match j with
    | 0 => rfl
    | 1 => rfl
    | j + 2 => simpa [halfSample_add_two] using ih j

theorem flatMap_pairSamples_length (h : HalfOrder) (words : List Word) :
    (words.flatMap (pairSamples h)).length = 2 * words.length := by
  induction words with
  | nil => rfl
  | cons d ds ih =>
    simp only [List.flatMap_cons, List.length_append, ih, pairSamples_eq, List.length_cons, List.length_nil]
    omega

/-- A whole scan gives every channel of the list one sample. -/
theorem scanSamples_length {w : WindowPlan} {words : List Word} (h : words.length = w.scanWords) :
    (scanSamples w words).length = w.chans.length := by
  cases hp : w.packing with
  | pair16 =>
    simp only [WindowPlan.scanWords, hp] at h
    simp only [scanSamples, hp, List.length_zip, flatMap_pairSamples_length, h]
    omega
  | solo24 =>
    simp only [WindowPlan.scanWords, hp] at h
    simp only [scanSamples, hp, List.length_zip, List.length_map, h, Nat.min_self]

/-- A PAIR16 scan carries list position `j` in a half of its word `j / 2` (R17). -/
theorem scanSamples_pair16 {w : WindowPlan} {words : List Word} {j c : Nat} {d : Word} (hp : w.packing = .pair16)
    (hc : w.chans[j]? = some c) (hd : words[j / 2]? = some d) :
    (scanSamples w words)[j]? = some (c, halfSample w.half j d) := by
  simp only [scanSamples, hp]
  rw [List.getElem?_zip_eq_some, flatMap_pairSamples_getElem?, hd]
  exact ⟨hc, rfl⟩

/-- A SOLO24 scan carries list position `j` in its word `j` (R18). -/
theorem scanSamples_solo24 {w : WindowPlan} {words : List Word} {j c : Nat} {d : Word} (hp : w.packing = .solo24)
    (hc : w.chans[j]? = some c) (hd : words[j]? = some d) :
    (scanSamples w words)[j]? = some (c, (d.extractLsb' 0 24).toInt / 256) := by
  simp only [scanSamples, hp]
  rw [List.getElem?_zip_eq_some, List.getElem?_map, hd, ← soloSample_eq]
  exact ⟨hc, rfl⟩

/-! ## The scans of a frame -/

/-- The words of scan `r` among the words after the header. -/
def scanAt (w : WindowPlan) (words : List Word) (r : Nat) : List Word := (words.drop (r * w.scanWords)).take w.scanWords

theorem scanAt_zero (w : WindowPlan) (words : List Word) : scanAt w words 0 = words.take w.scanWords := by
  rw [scanAt, Nat.zero_mul, List.drop_zero]

theorem scanAt_succ (w : WindowPlan) (words : List Word) (r : Nat) :
    scanAt w words (r + 1) = scanAt w (words.drop w.scanWords) r := by
  rw [scanAt, scanAt, List.drop_drop, Nat.succ_mul, Nat.add_comm]

/-- `n` scans give `n` samples to every channel of the list, and scan `r` gives those from place `r` times the list's
length on. -/
theorem scansSamples_layout {w : WindowPlan} {n : Nat} {words : List Word} (h : words.length = n * w.scanWords) :
    (scansSamples w n words).length = n * w.chans.length ∧
      ∀ r j, r < n → j < w.chans.length →
        (scansSamples w n words)[r * w.chans.length + j]? = (scanSamples w (scanAt w words r))[j]? := by
  induction n generalizing words with
  | zero => exact ⟨(Nat.zero_mul _).symm, fun r _ hr => absurd hr r.not_lt_zero⟩
  | succ n ih =>
    rw [Nat.succ_mul] at h
    have hfirst : (scanSamples w (words.take w.scanWords)).length = w.chans.length :=
      scanSamples_length (by rw [List.length_take]; omega)
    obtain ⟨hlen, hget⟩ := ih (words := words.drop w.scanWords) (by rw [List.length_drop]; omega)
    refine ⟨by rw [scansSamples, List.length_append, hfirst, hlen, Nat.succ_mul, Nat.add_comm], fun r j hr hj => ?_⟩
    cases r with
    | zero => rw [Nat.zero_mul, Nat.zero_add, scansSamples, List.getElem?_append_left (by omega), scanAt_zero]
    | succ r =>
      have hplace : (r + 1) * w.chans.length + j - w.chans.length = r * w.chans.length + j := by
        rw [Nat.succ_mul]; omega
      rw [scansSamples, List.getElem?_append_right (by rw [hfirst, Nat.succ_mul]; omega), hfirst, hplace,
        hget r j (by omega) hj, scanAt_succ]

/-- Word `k` of scan `r` exists in a frame of the right length, and stands `r` scans and the header further on. -/
theorem frame_word {w : WindowPlan} {f : Frame} {r k : Nat} (hf : f.words.length = w.frameWords) (hr : r < w.scans)
    (hk : k < w.scanWords) :
    ∃ d, f.words[1 + r * w.scanWords + k]? = some d ∧ (scanAt w (f.words.drop 1) r)[k]? = some d := by
  have hscan : (r + 1) * w.scanWords ≤ w.scans * w.scanWords := Nat.mul_le_mul_right _ hr
  have hin : 1 + r * w.scanWords + k < f.words.length := by
    rw [Nat.succ_mul] at hscan
    rw [hf, WindowPlan.frameWords]
    omega
  refine ⟨f.words[1 + r * w.scanWords + k], List.getElem?_eq_getElem hin, ?_⟩
  rw [scanAt, List.getElem?_take_of_lt hk, List.drop_drop, List.getElem?_drop, List.getElem?_eq_getElem hin]

/-- Settles O18: by induction on the scans, with the layout of one scan for each packing. -/
theorem frameLayout : Obligations.FrameLayout := by
  intro w f hf
  obtain ⟨hlen, hget⟩ := scansSamples_layout (w := w) (n := w.scans) (words := f.words.drop 1)
    (by rw [List.length_drop, hf, WindowPlan.frameWords, Nat.add_sub_cancel_left])
  refine ⟨hlen, fun r j c hr hc => ?_⟩
  have hj : j < w.chans.length := (List.getElem?_eq_some_iff.mp hc).1
  refine ⟨fun hp => ?_, fun hp => ?_⟩
  · have hs : w.scanWords = (w.chans.length + 1) / 2 := by simp only [WindowPlan.scanWords, hp]
    obtain ⟨d, hd, hscan⟩ := frame_word (k := j / 2) hf hr (by omega)
    exact ⟨d, hs ▸ hd, (hget r j hr hj).trans (scanSamples_pair16 hp hc hscan)⟩
  · have hs : w.scanWords = w.chans.length := by simp only [WindowPlan.scanWords, hp]
    obtain ⟨d, hd, hscan⟩ := frame_word (k := j) hf hr (by omega)
    exact ⟨d, hs ▸ hd, (hget r j hr hj).trans (scanSamples_solo24 hp hc hscan)⟩

end Sys2Proof.Machine
end

section
/-! PROOFS. The channel evaluator (R37 to R51): what the hit detector does with one sample and during a lockout, the bounds of
the exact variance and its root, and what the channel close makes of a channel's set, its context part and the held set. -/

namespace Sys2Proof.Machine

/-! ## The end of a hit (R41, R43) -/

/-- Every hit that ends is counted; one of duration Dmin or more is qualified too, and its peak taken (R41). -/
theorem countHit_eq (c : ChannelPlan) (a : Accum) :
    countHit c a = { a with
      hits := min 65535 (a.hits + 1)
      qualified := if c.dmin ≤ a.det.lastOver - a.det.first + 1 then min 255 (a.qualified + 1) else a.qualified
      peak := if c.dmin ≤ a.det.lastOver - a.det.first + 1 then max a.peak a.det.peak else a.peak } := by
  unfold countHit satAdd
  split <;> rfl

/-- The lockout begins with HLT samples to go; without one the count is left as it was. -/
theorem afterHit_eq (c : ChannelPlan) (d : Detector) :
    afterHit c d = { d with
      state := if c.hlt = 0 then .quiet else .lockout, lockout := if c.hlt = 0 then d.lockout else c.hlt } := by
  unfold afterHit
  split <;> rfl

/-! ## One sample (R37, R39, R40, R42) -/

theorem emits_iff_ne_vib (k : ChannelKind) : k.emits = true ↔ k ≠ .vib := by
  cases k <;> decide

theorem accumulate_of_full {c : ChannelPlan} {x : Int} {a : Accum} (h : a.n = 65535) :
    accumulate c x a = { a with long := true } := if_pos h

/-- A counted sample of an AE or BOTH channel goes on to the detector, that of a VIB channel does not. -/
theorem accumulate_of_not_full {c : ChannelPlan} {x : Int} {a : Accum} (h : a.n ≠ 65535) :
    accumulate c x a =
      let b := { a with
        n := a.n + 1, s1 := a.s1 + x, s2 := a.s2 + (x * x).toNat
        clips := if x = -32768 ∨ x = 32767 then min 65535 (a.clips + 1) else a.clips }
      if c.kind ≠ .vib then detect c a.n (x - a.offset).natAbs b else b := by
  have hsq : (x * x).toNat = x.natAbs * x.natAbs := by rw [← Int.natAbs_mul_self, Int.toNat_natCast]
  simp only [accumulate, if_neg h, hsq, isClip, Bool.or_eq_true, decide_eq_true_eq, satAdd, deviation, emits_iff_ne_vib]

section
variable {c : ChannelPlan} {i dev : Nat} {a : Accum}

theorem detect_begins_hit (hq : a.det.state = .quiet) (hth : c.th ≤ dev) :
    detect c i dev a
      = { a with det := { a.det with state := .inHit, first := i, lastOver := i, peak := dev, quiet := 0 } } := by
  simp only [detect, hq, if_pos hth]

theorem detect_stays_quiet (hq : a.det.state = .quiet) (hth : dev < c.th) : detect c i dev a = a := by
  simp only [detect, hq, if_neg (Nat.not_le.mpr hth)]

theorem detect_extends_hit (hh : a.det.state = .inHit) (hth : c.th ≤ dev) :
    detect c i dev a = { a with det := { a.det with peak := max a.det.peak dev, lastOver := i, quiet := 0 } } := by
  simp only [detect, hh, if_pos hth]

theorem detect_counts_quiet (hh : a.det.state = .inHit) (hth : dev < c.th) (hq : a.det.quiet + 1 < c.hdt) :
    detect c i dev a = { a with det := { a.det with quiet := a.det.quiet + 1 } } := by
  simp only [detect, hh, if_neg (Nat.not_le.mpr hth), if_neg (Nat.not_le.mpr hq)]

theorem detect_ends_hit (hh : a.det.state = .inHit) (hth : dev < c.th) (hq : c.hdt ≤ a.det.quiet + 1) :
    detect c i dev a = { a with
      hits := min 65535 (a.hits + 1)
      qualified := if c.dmin ≤ a.det.lastOver - a.det.first + 1 then min 255 (a.qualified + 1) else a.qualified
      peak := if c.dmin ≤ a.det.lastOver - a.det.first + 1 then max a.peak a.det.peak else a.peak
      det := { a.det with
        quiet := a.det.quiet + 1, state := if c.hlt = 0 then .quiet else .lockout
        lockout := if c.hlt = 0 then a.det.lockout else c.hlt } } := by
  simp only [detect, hh, if_neg (Nat.not_le.mpr hth), if_pos hq, countHit_eq, afterHit_eq]

theorem detect_in_lockout (hl : a.det.state = .lockout) :
    detect c i dev a = { a with det := { a.det with
      lockout := a.det.lockout - 1, state := if a.det.lockout ≤ 1 then .quiet else .lockout } } := by
  simp only [detect, hl]

end

/-! ## A lockout (R42) -/

/-- Before its last sample a lockout only counts down. -/
theorem lockout_holds (c : ChannelPlan) (samples : List (Nat × Nat)) {a : Accum} (hl : a.det.state = .lockout)
    (hlen : samples.length < a.det.lockout) :
    samples.foldl (fun b x => detect c x.1 x.2 b) a
      = { a with det := { a.det with lockout := a.det.lockout - samples.length } } := by
  induction samples generalizing a with
  | nil => rfl
  | cons x xs ih =>
    rw [List.length_cons] at hlen
    have hstep : detect c x.1 x.2 a = { a with det := { a.det with lockout := a.det.lockout - 1 } } := by
      rw [detect_in_lockout hl, if_neg (by omega), ← hl]
    rw [List.foldl_cons, hstep, List.length_cons, Nat.add_comm xs.length, ← Nat.sub_sub]
    exact ih hl (Nat.lt_sub_of_add_lt hlen)

/-- The last sample of a lockout is consumed too, and the detector is QUIET after it. -/
theorem lockout_ends (c : ChannelPlan) (samples : List (Nat × Nat)) {a : Accum} (hl : a.det.state = .lockout)
    (hlen : samples.length = a.det.lockout) (hpos : 1 ≤ a.det.lockout) :
    samples.foldl (fun b x => detect c x.1 x.2 b) a = { a with det := { a.det with lockout := 0, state := .quiet } } := by
  rcases List.eq_nil_or_concat' samples with rfl | ⟨init, last, rfl⟩
  · rw [← hlen] at hpos
    exact absurd hpos (by decide)
  · rw [List.length_append, List.length_singleton] at hlen
    have hone : a.det.lockout - init.length = 1 := by omega
    rw [List.foldl_append, lockout_holds c init hl (by omega), hone]
    exact detect_in_lockout hl

/-- Settles O19: the detector's rules one by one, and a lockout by induction on its samples. -/
theorem detectorRules : Obligations.DetectorRules := by
  refine ⟨fun c x a => ⟨accumulate_of_full, fun h => ⟨fun hv => ?_, fun hv => ?_⟩⟩,
    fun c i dev a => ⟨detect_begins_hit, detect_stays_quiet, detect_extends_hit, detect_counts_quiet, detect_ends_hit⟩,
    fun c a samples hl => ⟨lockout_holds c samples hl, lockout_ends c samples hl⟩⟩
  · rw [accumulate_of_not_full h]
    exact if_neg (not_not_intro hv)
  · rw [accumulate_of_not_full h]
    exact if_pos hv

/-! ## The integer root (R47) -/

/-- Digits found above bit `n` whose square is within `v`, and that stop being so with `2 ^ n` more, lead to the root. -/
theorem rootFrom_bounds {v : Nat} (n : Nat) {r : Nat} (hlo : r * r ≤ v) (hhi : v < (r + 2 ^ n) * (r + 2 ^ n)) :
    rootFrom v n r * rootFrom v n r ≤ v ∧ v < (rootFrom v n r + 1) * (rootFrom v n r + 1) := by
  induction n generalizing r with
  | zero => exact ⟨hlo, hhi⟩
  | succ n ih =>
    rw [rootFrom, rootDigit]
    split
    next hkeep => exact ih hkeep (by rwa [Nat.add_assoc, ← Nat.two_mul, ← Nat.pow_succ'])
    next hdrop => exact ih hlo (Nat.not_le.mp hdrop)

theorem isqrt_bounds {v : Nat} (h : v < 2 ^ 32) : isqrt v * isqrt v ≤ v ∧ v < (isqrt v + 1) * (isqrt v + 1) :=
  rootFrom_bounds 16 (Nat.zero_le v) (by simpa using h)

/-! ## The variance (R46) -/

/-- The numerator N × S2 - S1 × S1 of R46 for the samples `xs`. -/
def varNumerator (xs : List Int) : Int := xs.length * (xs.map fun x => x * x).sum - xs.sum * xs.sum

theorem sum_mul_self_nonneg (xs : List Int) : 0 ≤ (xs.map fun x => x * x).sum := by
  refine List.sum_nonneg fun y hy => ?_
  obtain ⟨x, _, rfl⟩ := List.mem_map.mp hy
  exact mul_self_nonneg x

/-- The square of a sum is at most the count times the sum of squares. -/
theorem varNumerator_nonneg (xs : List Int) : 0 ≤ varNumerator xs := by
  have h := sq_sum_le_card_mul_sum_sq (s := Finset.univ) (f := fun i : Fin xs.length => xs[i.1])
  rw [Fin.sum_univ_getElem, Fin.sum_univ_fun_getElem xs (fun x => x ^ 2), Finset.card_univ, Fintype.card_fin] at h
  simp only [sq] at h
  exact sub_nonneg.mpr h

/-- Each 16-bit sample has (x + 32768) × (32767 - x) ≥ 0; summed, that bounds S2 by S1. -/
theorem sum_mul_self_add_sum_le {xs : List Int} (h : ∀ x ∈ xs, -32768 ≤ x ∧ x ≤ 32767) :
    (xs.map fun x => x * x).sum + xs.sum ≤ xs.length * 1073709056 := by
  induction xs with
  | nil => decide
  | cons x xs ih =>
    obtain ⟨⟨hlo, hhi⟩, hxs⟩ := List.forall_mem_cons.mp h
    have hx : x * x + x ≤ 1073709056 := by nlinarith
    have := ih hxs
    simp only [List.map_cons, List.sum_cons, List.length_cons]
    push_cast
    omega

/-- The numerator is at most the square of half the range 65535, times N × N. -/
theorem varNumerator_le {xs : List Int} (h : ∀ x ∈ xs, -32768 ≤ x ∧ x ≤ 32767) :
    4 * varNumerator xs ≤ 4294836225 * ((xs.length : Int) * xs.length) := by
  have hmul := mul_le_mul_of_nonneg_left (sum_mul_self_add_sum_le h) (Int.natCast_nonneg xs.length)
  unfold varNumerator
  nlinarith [mul_self_nonneg ((xs.length : Int) + 2 * xs.sum)]

theorem varNumerator_lt {xs : List Int} (h : ∀ x ∈ xs, -32768 ≤ x ∧ x ≤ 32767) (hlen : xs.length ≤ 65535) :
    varNumerator xs < 2 ^ 63 := by
  have hsq : (xs.length : Int) * xs.length ≤ 65535 * 65535 := by
    exact_mod_cast Nat.mul_le_mul hlen hlen
  have := varNumerator_le h
  omega

/-- The variance of the sums that the samples `xs` leave. -/
def sampleVariance (xs : List Int) : Nat := variance xs.length xs.sum (xs.map fun x => x * x).sum.toNat

theorem sampleVariance_nil : sampleVariance [] = 0 := rfl

theorem variance_zero (s1 : Int) (s2 : Nat) : variance 0 s1 s2 = 0 := rfl

/-- The subtraction and the division of naturals in `variance` are those of the integers. -/
theorem sampleVariance_eq {xs : List Int} (h : xs ≠ []) :
    (sampleVariance xs : Int) = varNumerator xs / ((xs.length : Int) * xs.length) := by
  have hn : xs.length ≠ 0 := List.length_eq_zero_iff.not.mpr h
  have hs2 : ((xs.map fun x => x * x).sum.toNat : Int) = (xs.map fun x => x * x).sum :=
    Int.toNat_of_nonneg (sum_mul_self_nonneg xs)
  have hsub : xs.sum.natAbs * xs.sum.natAbs ≤ xs.length * (xs.map fun x => x * x).sum.toNat := by
    zify
    rw [hs2, abs_mul_abs_self]
    exact sub_nonneg.mp (varNumerator_nonneg xs)
  rw [sampleVariance, variance, if_neg hn, Int.natCast_ediv, Nat.cast_sub hsub, varNumerator]
  push_cast
  rw [hs2, abs_mul_abs_self]

/-- 1073709056 is 32767.5 × 32767.5 rounded down. -/
theorem sampleVariance_le {xs : List Int} (h : ∀ x ∈ xs, -32768 ≤ x ∧ x ≤ 32767) : sampleVariance xs ≤ 1073709056 := by
  by_cases hne : xs = []
  · rw [hne, sampleVariance_nil]
    exact Nat.zero_le _
  · have hpos : 0 < (xs.length : Int) * xs.length := by
      have := List.length_pos_iff.mpr hne
      positivity
    have hlt : (sampleVariance xs : Int) < 1073709057 := by
      rw [sampleVariance_eq hne]
      refine Int.ediv_lt_of_lt_mul hpos ?_
      have := varNumerator_le h
      omega
    omega

theorem isqrt_sampleVariance_le {xs : List Int} (h : ∀ x ∈ xs, -32768 ≤ x ∧ x ≤ 32767) :
    isqrt (sampleVariance xs) ≤ 32767 := by
  have hv := sampleVariance_le h
  have hroot := (isqrt_bounds (v := sampleVariance xs) (by omega)).1
  nlinarith

/-! ## The channel close (R43, R45) -/

theorem closeHit_of_not_inHit {c : ChannelPlan} {a : Accum} (h : a.det.state ≠ .inHit) : closeHit c a = a := by
  unfold closeHit
  split
  next hh => exact absurd hh h
  all_goals rfl

theorem closeHit_of_inHit {c : ChannelPlan} {a : Accum} (h : a.det.state = .inHit) :
    closeHit c a = { a with
      hits := min 65535 (a.hits + 1)
      qualified := if c.dmin ≤ a.det.lastOver - a.det.first + 1 then min 255 (a.qualified + 1) else a.qualified
      peak := if c.dmin ≤ a.det.lastOver - a.det.first + 1 then max a.peak a.det.peak else a.peak
      det := { a.det with state := .quiet } } := by
  simp only [closeHit, h, countHit_eq]

/-- Ending a hit leaves the sums and counts that the outcome, the RMS and the offset are made of. -/
theorem closeHit_sums (c : ChannelPlan) (a : Accum) :
    (closeHit c a).n = a.n ∧ (closeHit c a).s1 = a.s1 ∧ (closeHit c a).s2 = a.s2 ∧ (closeHit c a).clips = a.clips := by
  by_cases h : a.det.state = .inHit
  · simp only [closeHit_of_inHit h, and_self]
  · simp only [closeHit_of_not_inHit h, and_self]

section
variable (s : State) (pl : Plan) (c : ChannelPlan)

theorem closeChannel_number : (closeChannel s pl c).number = c.number := rfl

theorem closeChannel_acc : (closeChannel s pl c).acc = closeHit c (s.eval.accum c.number) := rfl

theorem closeChannel_rms :
    (closeChannel s pl c).rms
      = isqrt (variance (s.eval.accum c.number).n (s.eval.accum c.number).s1 (s.eval.accum c.number).s2) := by
  obtain ⟨hn, hs1, hs2, -⟩ := closeHit_sums c (s.eval.accum c.number)
  rw [← hn, ← hs1, ← hs2]
  rfl

theorem closeChannel_outcome :
    (closeChannel s pl c).outcome
      = outcomeOf (s.assembler (pl.windowOf c.number)).silenceLatch c (s.eval.accum c.number) := by
  obtain ⟨hn, hs1, hs2, hclips⟩ := closeHit_sums c (s.eval.accum c.number)
  simp only [closeChannel, outcomeOf, hn, hs1, hs2, hclips]

end

/-- Settles O20: the numerator lies between Cauchy's and Popoviciu's bounds, and the root's digits keep its two bounds. -/
theorem varianceAndRms : Obligations.VarianceAndRms := by
  refine ⟨fun xs h hlen => ⟨varNumerator_nonneg xs, varNumerator_lt h hlen, sampleVariance_eq, ?_, ?_, ?_⟩,
    fun v hv => isqrt_bounds hv, fun xs h _ => ⟨sampleVariance_le h, isqrt_sampleVariance_le h⟩,
    fun s pl c => ⟨closeChannel_rms s pl c, fun hn => ?_⟩⟩
  · exact (sampleVariance_le h).trans (by decide)
  · rintro rfl
    exact sampleVariance_nil
  · rintro rfl
    decide
  · rw [closeChannel_rms, hn, variance_zero]
    decide

/-! ## The tests of R45 -/

section
variable {c : ChannelPlan} {a : Accum}

theorem outcomeOf_latched : outcomeOf true c a = .silent := rfl

theorem outcomeOf_few (h : a.n < c.nmin) : outcomeOf false c a = .few := by
  simp only [outcomeOf, Bool.false_eq_true, if_false, if_pos h]

theorem outcomeOf_clipped (hn : c.nmin ≤ a.n) (h : c.clipLimit < a.clips) : outcomeOf false c a = .clipped := by
  simp only [outcomeOf, Bool.false_eq_true, if_false, if_neg (Nat.not_lt.mpr hn), if_pos h]

theorem outcomeOf_flat_or_good (hn : c.nmin ≤ a.n) (h : a.clips ≤ c.clipLimit) :
    outcomeOf false c a = if variance a.n a.s1 a.s2 = 0 then .flat else .good := by
  simp only [outcomeOf, Bool.false_eq_true, if_false, if_neg (Nat.not_lt.mpr hn), if_neg (Nat.not_lt.mpr h)]

/-- An outcome past the second test has enough samples. -/
theorem outcomeOf_enough {latch : Bool} (hs : outcomeOf latch c a ≠ .silent) (hf : outcomeOf latch c a ≠ .few) :
    c.nmin ≤ a.n := by
  cases latch with
  | true => exact absurd outcomeOf_latched hs
  | false => exact Nat.not_lt.mp fun h => hf (outcomeOf_few h)

/-- CLIPPED needs more clips than the limit. -/
theorem clips_of_outcomeOf_clipped {latch : Bool} (h : outcomeOf latch c a = .clipped) : c.clipLimit < a.clips := by
  have hn : c.nmin ≤ a.n := outcomeOf_enough (by rw [h]; decide) (by rw [h]; decide)
  cases latch with
  | true => cases h
  | false =>
    by_contra hle
    rw [outcomeOf_flat_or_good hn (Nat.not_lt.mp hle)] at h
    split at h <;> cases h

end

/-! ## The results of all channels (R36, R44, R51) -/

theorem channel_number {pl : Plan} {n : Nat} {c : ChannelPlan} (h : pl.channel n = some c) : c.number = n := by
  have := List.find?_some h
  simpa using this

theorem mem_closeChannels {s : State} {pl : Plan} {r : ChanResult} :
    r ∈ closeChannels s pl ↔ r.number < 64 ∧ ∃ c, pl.channel r.number = some c ∧ closeChannel s pl c = r := by
  simp only [closeChannels, Plan.definedChans, List.mem_map, List.mem_filterMap, List.mem_filter, List.mem_range]
  constructor
  · rintro ⟨c, ⟨n, ⟨hn, -⟩, hc⟩, rfl⟩
    rw [closeChannel_number, channel_number hc]
    exact ⟨hn, c, hc, rfl⟩
  · rintro ⟨hn, c, hc, hr⟩
    exact ⟨c, ⟨_, ⟨hn, by rw [hc]; rfl⟩, hc⟩, hr⟩

/-- A channel below 64 that the plan defines has its close among the results, and no other result has its number. -/
theorem closeChannels_unique {s : State} {pl : Plan} {n : Nat} {c : ChannelPlan} (hc : pl.channel n = some c) (hn : n < 64) :
    closeChannel s pl c ∈ closeChannels s pl ∧ ∀ r ∈ closeChannels s pl, r.number = n → r = closeChannel s pl c := by
  refine ⟨mem_closeChannels.mpr ?_, fun r hr hrn => ?_⟩
  · rw [closeChannel_number, channel_number hc]
    exact ⟨hn, c, hc, rfl⟩
  · obtain ⟨-, c', hc', rfl⟩ := mem_closeChannels.mp hr
    rw [hrn, hc] at hc'
    cases hc'
    rfl

theorem closeChannels_of_undefined {s : State} {pl : Plan} {n : Nat} (hc : pl.channel n = none) :
    ∀ r ∈ closeChannels s pl, r.number ≠ n := by
  intro r hr hrn
  obtain ⟨-, c, hc', -⟩ := mem_closeChannels.mp hr
  rw [hrn, hc] at hc'
  cases hc'

theorem resultOf_eq_none {rs : List ChanResult} {n : Nat} (h : ∀ r ∈ rs, r.number ≠ n) : resultOf rs n = none :=
  List.find?_eq_none.mpr fun r hr => by simpa using h r hr

theorem resultOf_closeChannels {s : State} {pl : Plan} {n : Nat} {c : ChannelPlan} (hc : pl.channel n = some c)
    (hn : n < 64) : resultOf (closeChannels s pl) n = some (closeChannel s pl c) := by
  obtain ⟨hmem, huniq⟩ := closeChannels_unique (s := s) hc hn
  cases h : resultOf (closeChannels s pl) n with
  | none =>
    have hno := List.find?_eq_none.mp h _ hmem
    rw [closeChannel_number, channel_number hc] at hno
    exact absurd (beq_self_eq_true n) hno
  | some r => rw [huniq r (List.mem_of_find?_eq_some h) (by simpa using List.find?_some h)]

theorem finalAccums_cons (r : ChanResult) (rs : List ChanResult) (xs : List Accum) :
    finalAccums (r :: rs) xs = finalAccums rs (xs.set r.number r.acc) := rfl

theorem finalAccums_of_no_result {rs : List ChanResult} {n : Nat} (xs : List Accum) (h : ∀ r ∈ rs, r.number ≠ n) :
    (finalAccums rs xs)[n]? = xs[n]? := by
  induction rs generalizing xs with
  | nil => rfl
  | cons r rs ih =>
    obtain ⟨hr, hrs⟩ := List.forall_mem_cons.mp h
    rw [finalAccums_cons, ih _ hrs, List.getElem?_set_ne hr]

/-- A channel whose only result is `q` ends with the set of `q`. -/
theorem finalAccums_of_result {rs : List ChanResult} {q : ChanResult} {n : Nat} {xs : List Accum} (hq : q ∈ rs)
    (hnum : q.number = n) (huniq : ∀ r ∈ rs, r.number = n → r = q) (hlen : n < xs.length) :
    (finalAccums rs xs)[n]? = some q.acc := by
  induction rs generalizing xs with
  | nil => cases hq
  | cons r rs ih =>
    have hrs := (List.forall_mem_cons.mp huniq).2
    rw [finalAccums_cons]
    by_cases hlater : q ∈ rs
    · exact ih hlater hrs (by rwa [List.length_set])
    · obtain rfl : q = r := (List.mem_cons.mp hq).resolve_right hlater
      rw [finalAccums_of_no_result _ fun r' hr' hn => hlater (hrs r' hr' hn ▸ hr'), hnum]
      exact List.getElem?_set_self hlen

theorem heldSet_getElem? (rs : List ChanResult) {n : Nat} (hn : n < 64) : (heldSet rs)[n]? = some (heldEntry rs n) := by
  rw [heldSet, List.getElem?_map, List.getElem?_range hn]
  rfl

/-! ## The context part and the notices (R48, R49) -/

theorem closeChannelCtx_of_good {rs : List ChanResult} {x : ChannelCtx} {r : ChanResult}
    (h : resultOf rs x.number = some r) (hg : r.outcome = .good) :
    closeChannelCtx rs x = { x with offset := Int.tdiv r.acc.s1 r.acc.n, responsive := true } := by
  simp only [closeChannelCtx, h, hg, if_true, meanOffset, beq_self_eq_true]

theorem closeChannelCtx_of_not_good {rs : List ChanResult} {x : ChannelCtx} {r : ChanResult}
    (h : resultOf rs x.number = some r) (hg : r.outcome ≠ .good) :
    closeChannelCtx rs x = { x with responsive := false } := by
  simp only [closeChannelCtx, h, if_neg hg, beq_eq_false_iff_ne.mpr hg]

theorem channelNotice_of_good (s : State) {rs : List ChanResult} {x : ChannelCtx} {r : ChanResult}
    (h : resultOf rs x.number = some r) (hg : r.outcome = .good) :
    channelNotice s rs x = if x.responsive then none else some (s.naming .channelBack x.number 0) := by
  simp only [channelNotice, h, beq_iff_eq.mpr hg]
  cases x.responsive <;> rfl

theorem channelNotice_of_not_good (s : State) {rs : List ChanResult} {x : ChannelCtx} {r : ChanResult}
    (h : resultOf rs x.number = some r) (hg : r.outcome ≠ .good) :
    channelNotice s rs x = if x.responsive then some (s.naming .channelLost x.number r.outcome.code) else none := by
  simp only [channelNotice, h, beq_eq_false_iff_ne.mpr hg]
  cases x.responsive <;> rfl

/-! ## The channel close as a whole -/

/-- Settles O21: the tests of R45, then the one result that each defined channel has. -/
theorem channelClosed : Obligations.ChannelClosed := by
  refine ⟨fun s pl c => ?_, fun s pl x c hc hn => ?_, fun s pl n hn hlen => ⟨fun c hc => ?_, fun hc => ?_⟩⟩
  · intro a o latch
    have ho : o = outcomeOf latch c a := closeChannel_outcome s pl c
    rw [ho]
    refine ⟨fun h => ?_, fun h => ?_, fun h => ?_, fun h hn hcl hv => ?_, fun h hn hcl hv => ?_, fun h1 h0 => ?_, fun h hf => ?_,
      fun h hn h0 h1 => ?_, fun h hle hcl => ?_, closeHit_of_not_inHit, closeHit_of_inHit⟩
    · rw [h, outcomeOf_latched]
    · rw [h]; exact outcomeOf_few
    · rw [h]; exact outcomeOf_clipped
    · rw [h, outcomeOf_flat_or_good hn hcl, if_pos hv]
    · rw [h, outcomeOf_flat_or_good hn hcl, if_neg hv]
    · cases latch with
      | true => exact .inr outcomeOf_latched
      | false => exact .inl (outcomeOf_few (by omega))
    · exact h.trans (outcomeOf_enough (by rw [hf]; decide) (by rw [hf]; decide))
    · rw [h]; exact outcomeOf_clipped hn (by omega)
    · have := clips_of_outcomeOf_clipped hcl
      omega
  · intro rs a o
    have hr : resultOf rs x.number = some (closeChannel s pl c) := resultOf_closeChannels hc hn
    obtain ⟨hsamples, hs1, -, -⟩ := closeHit_sums c (s.eval.accum c.number)
    refine ⟨by rw [outcomeAt, hr]; rfl, fun hg => ⟨?_, channelNotice_of_good s hr hg⟩,
      fun hg => ⟨closeChannelCtx_of_not_good hr hg, channelNotice_of_not_good s hr hg⟩⟩
    rw [closeChannelCtx_of_good hr hg, closeChannel_acc, hsamples, hs1, channel_number hc]
  · obtain ⟨hmem, huniq⟩ := closeChannels_unique (s := s) hc hn
    refine ⟨?_, finalAccums_of_result hmem (channel_number hc) huniq (hlen ▸ hn)⟩
    rw [heldSet_getElem? _ hn, heldEntry, resultOf_closeChannels hc hn]
  · have hno := closeChannels_of_undefined (s := s) hc
    refine ⟨?_, finalAccums_of_no_result _ hno⟩
    rw [heldSet_getElem? _ hn, heldEntry, resultOf_eq_none hno]

end Sys2Proof.Machine
end

section
/-! PROOFS. The row median (R64 to R66): the sort of the model is the library's, where the median stands in the sorted values,
and which values a group has. -/

namespace Sys2Proof.Machine

/-! ## The sort (R66) -/

theorem insertAscending_eq (x : Nat) (v : List Nat) : insertAscending x v = v.orderedInsert (· ≤ ·) x := by
  induction v with
  | nil => rfl
  | cons y ys ih => rw [insertAscending, ih, List.orderedInsert_cons]

theorem sortAscending_eq_insertionSort (v : List Nat) : sortAscending v = v.insertionSort (· ≤ ·) := by
  induction v with
  | nil => rfl
  | cons x xs ih => rw [sortAscending, ih, insertAscending_eq, List.insertionSort_cons]

theorem sortAscending_eq_mergeSort (v : List Nat) : sortAscending v = v.mergeSort (fun a b => decide (a ≤ b)) := by
  rw [sortAscending_eq_insertionSort, List.mergeSort_eq_insertionSort]

theorem sortAscending_perm (v : List Nat) : (sortAscending v).Perm v :=
  sortAscending_eq_mergeSort v ▸ List.mergeSort_perm v _

@[simp] theorem sortAscending_length (v : List Nat) : (sortAscending v).length = v.length := (sortAscending_perm v).length_eq

/-- Sorted lists of the same values are equal. -/
theorem sortAscending_eq_of_perm {u v : List Nat} (h : u.Perm v) : sortAscending u = sortAscending v := by
  rw [sortAscending_eq_insertionSort, sortAscending_eq_insertionSort]
  refine List.Perm.eq_of_pairwise' (List.pairwise_insertionSort _ u) (List.pairwise_insertionSort _ v) ?_
  exact (List.perm_insertionSort _ u).trans (h.trans (List.perm_insertionSort _ v).symm)

/-! ## The median (R66) -/

theorem medianOf_of_lt_three {v : List Nat} (h : v.length < 3) : medianOf v = 256 := by
  simp only [medianOf, sortAscending_length, if_pos h]

theorem medianOf_of_odd {v : List Nat} (h3 : 3 ≤ v.length) (hodd : v.length % 2 = 1) :
    (sortAscending v)[v.length / 2]? = some (medianOf v) := by
  have hmid : v.length / 2 < (sortAscending v).length := by rw [sortAscending_length]; omega
  simp only [medianOf, sortAscending_length, if_neg (Nat.not_lt.mpr h3), if_pos hodd,
    List.getD_eq_getElem _ _ hmid, List.getElem?_eq_getElem hmid]

theorem medianOf_of_even {v : List Nat} (h3 : 3 ≤ v.length) (heven : v.length % 2 = 0) :
    ∃ a b, (sortAscending v)[v.length / 2 - 1]? = some a ∧ (sortAscending v)[v.length / 2]? = some b ∧
      medianOf v = (a + b) / 2 := by
  have hhigh : v.length / 2 < (sortAscending v).length := by rw [sortAscending_length]; omega
  have hlow : v.length / 2 - 1 < (sortAscending v).length := by omega
  refine ⟨_, _, List.getElem?_eq_getElem hlow, List.getElem?_eq_getElem hhigh, ?_⟩
  simp only [medianOf, sortAscending_length, if_neg (Nat.not_lt.mpr h3), if_neg (show ¬ v.length % 2 = 1 by omega),
    List.getD_eq_getElem _ _ hhigh, List.getD_eq_getElem _ _ hlow]

theorem medianOf_eq_of_perm {u v : List Nat} (h : u.Perm v) : medianOf u = medianOf v := by
  rw [medianOf, medianOf, sortAscending_eq_of_perm h]

/-- A bound of all values, 256 or more for a group with too few members, bounds their median. -/
theorem medianOf_le {v : List Nat} {m : Nat} (hm : 256 ≤ m) (h : ∀ x ∈ v, x ≤ m) : medianOf v ≤ m := by
  have hle {i x : Nat} (hx : (sortAscending v)[i]? = some x) : x ≤ m :=
    h x ((sortAscending_perm v).mem_iff.mp (List.mem_of_getElem? hx))
  rcases Nat.lt_or_ge v.length 3 with hfew | h3
  · rw [medianOf_of_lt_three hfew]
    exact hm
  · rcases Nat.mod_two_eq_zero_or_one v.length with heven | hodd
    · obtain ⟨a, b, ha, hb, hab⟩ := medianOf_of_even h3 heven
      have hma := hle ha
      have hmb := hle hb
      omega
    · exact hle (medianOf_of_odd h3 hodd)

/-! ## The values of a group (R64, R65) -/

theorem largest_eq_max? (v : List Nat) : largest v = v.max? := by
  cases v <;> rfl

theorem cavityQ_of_excluded {rs : List ChanResult} {p : CavityPlan} {c : CavityCtx} (h : c.state = .excluded) :
    cavityQ rs p c = none := if_pos h

theorem cavityQ_eq_some_iff {rs : List ChanResult} {p : CavityPlan} {c : CavityCtx} (h : c.state ≠ .excluded) (x : Nat) :
    cavityQ rs p c = some x ↔
      (∃ k ∈ considered rs p c, slotRatio rs p c k = some x) ∧
        ∀ k ∈ considered rs p c, ∀ y, slotRatio rs p c k = some y → y ≤ x := by
  rw [cavityQ, if_neg h, largest_eq_max?, List.max?_eq_some_iff]
  simp only [List.mem_filterMap]
  exact and_congr_right fun _ => ⟨fun hle k hk y hy => hle y ⟨k, hk, hy⟩, fun hle y ⟨k, hk, hy⟩ => hle k hk y hy⟩

theorem groupMedian_eq (rs : List ChanResult) (cs : List (CavityPlan × CavityCtx)) (g : Nat) :
    groupMedian rs cs g = medianOf (cs.filterMap fun x => if x.1.group = g then cavityQ rs x.1 x.2 else none) := by
  simp only [groupMedian, List.filterMap_filter, beq_iff_eq]

/-- Settles O23: the sort is the library's, and the median takes its middle values. -/
theorem rowMedian : Obligations.RowMedian := by
  refine ⟨fun v => ?_, fun rs p c => ⟨cavityQ_of_excluded, cavityQ_eq_some_iff⟩, fun rs cs g v hv => ?_⟩
  · rw [← sortAscending_eq_mergeSort]
    exact ⟨medianOf_of_lt_three, medianOf_of_odd, fun h4 => medianOf_of_even (by omega), fun u => medianOf_eq_of_perm,
      medianOf_le (by decide)⟩
  · rw [groupMedian_eq, medianOf_eq_of_perm hv]

end Sys2Proof.Machine
end

section
/-! PROOFS. The dominant slot (R68): the better of two slots in ascending order outranks both, so the fold over the considered
slots ends with the one that outranks all. -/

namespace Sys2Proof.Machine

/-! ## Rank (R68) -/

/-- `x` comes before `y` for R68: a sum at least as large, and the lower slot number if the sums are equal. -/
def Outranks (x y : SlotWork) : Prop := y.v + y.a ≤ x.v + x.a ∧ (y.v + y.a = x.v + x.a → x.slot ≤ y.slot)

theorem outranks_refl (x : SlotWork) : Outranks x x := ⟨le_rfl, fun _ => le_rfl⟩

theorem outranks_trans {x y z : SlotWork} (hxy : Outranks x y) (hyz : Outranks y z) : Outranks x z := by
  obtain ⟨hsum, hslot⟩ := hxy
  obtain ⟨hsum', hslot'⟩ := hyz
  exact ⟨hsum'.trans hsum, fun h => (hslot (by omega)).trans (hslot' (by omega))⟩

theorem slot_eq_of_outranks {x y : SlotWork} (hxy : Outranks x y) (hyx : Outranks y x) : x.slot = y.slot := by
  obtain ⟨hsum, hslot⟩ := hxy
  obtain ⟨hsum', hslot'⟩ := hyx
  have heq := le_antisymm hsum hsum'
  exact le_antisymm (hslot heq) (hslot' heq.symm)

theorem betterSlot_eq_or (x y : SlotWork) : betterSlot x y = x ∨ betterSlot x y = y := by
  unfold betterSlot
  split
  · exact .inr rfl
  · exact .inl rfl

theorem betterSlot_outranks {x y : SlotWork} (h : x.slot < y.slot) :
    Outranks (betterSlot x y) x ∧ Outranks (betterSlot x y) y := by
  unfold betterSlot
  split
  next hlt => exact ⟨⟨hlt.le, fun heq => absurd heq hlt.ne⟩, outranks_refl y⟩
  next hge => exact ⟨outranks_refl x, Nat.not_lt.mp hge, fun _ => h.le⟩

/-! ## The fold over the considered slots -/

theorem foldl_betterSlot_mem (x : SlotWork) (xs : List SlotWork) : xs.foldl betterSlot x ∈ x :: xs := by
  induction xs generalizing x with
  | nil => exact List.mem_singleton_self x
  | cons y ys ih =>
    have hmem := ih (betterSlot x y)
    rw [List.foldl_cons]
    rcases betterSlot_eq_or x y with h | h <;> rw [h] at hmem ⊢
    · exact List.cons_subset_cons x (List.subset_cons_self y ys) hmem
    · exact List.mem_cons_of_mem x hmem

theorem foldl_betterSlot_outranks (x : SlotWork) (xs : List SlotWork)
    (h : (x :: xs).Pairwise (fun y z => y.slot < z.slot)) : ∀ y ∈ x :: xs, Outranks (xs.foldl betterSlot x) y := by
  induction xs generalizing x with
  | nil =>
    intro y hy
    rw [List.mem_singleton.mp hy]
    exact outranks_refl x
  | cons z zs ih =>
    obtain ⟨hx, hzs⟩ := List.pairwise_cons.mp h
    have hbetter : (betterSlot x z :: zs).Pairwise (fun y z => y.slot < z.slot) := by
      rcases betterSlot_eq_or x z with hb | hb <;> rw [hb]
      · exact h.sublist ((List.sublist_cons_self z zs).cons_cons x)
      · exact hzs
    obtain ⟨hfold, hrest⟩ := List.forall_mem_cons.mp (ih (betterSlot x z) hbetter)
    obtain ⟨hleft, hright⟩ := betterSlot_outranks (hx z List.mem_cons_self)
    exact List.forall_mem_cons.mpr
      ⟨outranks_trans hfold hleft, List.forall_mem_cons.mpr ⟨outranks_trans hfold hright, hrest⟩⟩

/-- In an ascending list, works with the same slot are the same. -/
theorem eq_of_slot_eq {works : List SlotWork} (h : works.Pairwise (fun y z => y.slot < z.slot)) {x y : SlotWork}
    (hx : x ∈ works) (hy : y ∈ works) (hslot : x.slot = y.slot) : x = y :=
  List.inj_on_of_nodup_map ((List.pairwise_map.mpr h).imp fun hlt => ne_of_lt hlt) hx hy hslot

theorem dominant_eq_some_iff {works : List SlotWork} (h : works.Pairwise (fun y z => y.slot < z.slot)) (x : SlotWork) :
    dominant works = some x ↔ x ∈ works ∧ ∀ y ∈ works, Outranks x y := by
  cases works with
  | nil => simp [dominant]
  | cons w ws =>
    have hmem := foldl_betterSlot_mem w ws
    have hall := foldl_betterSlot_outranks w ws h
    rw [dominant, Option.some_inj]
    constructor
    · rintro rfl
      exact ⟨hmem, hall⟩
    · rintro ⟨hx, hxall⟩
      exact eq_of_slot_eq h hmem hx (slot_eq_of_outranks (hall x hx) (hxall _ hmem))

/-! ## The considered slots in order (R59) -/

theorem considered_pairwise (rs : List ChanResult) (p : CavityPlan) (c : CavityCtx) :
    (considered rs p c).Pairwise (fun j k => j < k) := by
  have hslots : slots4.Pairwise (fun j k => j < k) := by decide
  unfold considered
  split
  · exact List.pairwise_singleton _ _
  · exact hslots.filter _

/-- Settles O24: the fold ends with the slot that outranks all, and no two slots outrank each other. -/
theorem dominantSlot : Obligations.DominantSlot := by
  refine ⟨rfl, fun works x h => ?_, fun rs q m p c => ?_⟩
  · rw [dominant_eq_some_iff h]
    exact and_congr_right fun _ => forall₂_and
  · exact List.pairwise_map.mpr (considered_pairwise rs p c)

end Sys2Proof.Machine
end

section
/-! PROOFS. The mark queue at an accepted state word (R117, R12): what the DEMOULD-entry event removes, and that
nothing else in the handling of a word touches the mark queue, the pulse or the stop latch. -/

namespace Sys2Proof.Machine

/-! ## The DEMOULD-entry event (R117, R118) -/

/-- The model's test of a mark is the comparison of R117 on integers. -/
theorem markReached_iff (c t : Nat) : markReached c t = true ↔ ((c : Int) - t) % 65536 < 32768 := by
  unfold markReached subMod
  rw [decide_eq_true_eq]
  omega

/-- `dropWhile` removes exactly a front part that passes the test and is followed by nothing that does. -/
theorem dropWhile_eq_of_split {α : Type} {p : α → Bool} {xs gone rest : List α} (h : xs = gone ++ rest)
    (hgone : ∀ t ∈ gone, p t = true) (hrest : ∀ t r, rest = t :: r → ¬ p t = true) : xs.dropWhile p = rest := by
  rw [h, List.dropWhile_append_of_pos hgone]
  cases rest with
  | nil => rfl
  | cons t r => exact List.dropWhile_cons_of_neg (hrest t r rfl)

/-- The marks in front that are reached go, and the pulse fires if there was one (R117). -/
theorem advanceMarks_of_split {s : State} {gone rest : List Nat} (pl : Plan) (c : Nat) (h : s.out.marks = gone ++ rest)
    (hgone : ∀ t ∈ gone, markReached c t = true) (hrest : ∀ t r, rest = t :: r → ¬ markReached c t = true) :
    advanceMarks pl c s = if gone = [] then s else firePulse pl (s.setOut { s.out with marks := rest }) := by
  have hlt : rest.length < s.out.marks.length ↔ ¬ gone = [] := by
    rw [h, List.length_append, ← List.length_eq_zero_iff]
    omega
  unfold advanceMarks
  simp only [dropWhile_eq_of_split h hgone hrest, hlt, ite_not]

/-- What the event does to the outputs depends on the outputs alone. -/
theorem advanceMarks_out_congr {s t : State} (pl : Plan) (c : Nat) (h : t.out = s.out) :
    (advanceMarks pl c t).out = (advanceMarks pl c s).out := by
  unfold advanceMarks firePulse
  simp only [h]
  split
  · rfl
  · exact h

@[simp] theorem advanceMarks_tracker (pl : Plan) (c : Nat) (s : State) : (advanceMarks pl c s).tracker = s.tracker := by
  unfold advanceMarks
  simp only
  split <;> rfl

@[simp] theorem advanceMarks_closing (pl : Plan) (c : Nat) (s : State) : (advanceMarks pl c s).closing = s.closing := by
  unfold advanceMarks
  simp only
  split <;> rfl

/-- The DEMOULD-entry test: phase DEMOULD, and no DEMOULD word accepted just before (R12). -/
theorem demouldEntry_iff (w : StateWord) (prev : Option StateWord) :
    demouldEntry w prev = true ↔ w.phase = .demould ∧ ∀ v, prev = some v → v.phase ≠ .demould := by
  cases prev <;> simp [demouldEntry]

/-! ## What keeps the outputs -/

/-- If no item of step 4 is left in `s`, then none is left in `t`, and the output unit is the same in both. The premise is
needed where waiting entries are placed on the way from `s` to `t`: step 4 goes on there and may push a mark. -/
def KeepsOutputs (s t : State) : Prop := s.closing.items = [] → t.out = s.out ∧ t.closing.items = []

theorem KeepsOutputs.trans {s t u : State} (h : KeepsOutputs s t) (g : KeepsOutputs t u) : KeepsOutputs s u := by
  intro hs
  obtain ⟨ho, hc⟩ := h hs
  obtain ⟨go, gc⟩ := g hc
  exact ⟨go.trans ho, gc⟩

/-- A step that leaves the output unit and close processing alone. -/
theorem KeepsOutputs.of_eq {s t : State} (ho : t.out = s.out) (hc : t.closing = s.closing) : KeepsOutputs s t :=
  fun hs => ⟨ho, by rw [hc, hs]⟩

theorem KeepsOutputs.refl (s : State) : KeepsOutputs s s := .of_eq rfl rfl

theorem KeepsOutputs.tracker (s : State) (v : Tracker) : KeepsOutputs s (s.setTracker v) := .of_eq rfl rfl
theorem KeepsOutputs.asm (s : State) (v : List Assembler) : KeepsOutputs s (s.setAsm v) := .of_eq rfl rfl
theorem KeepsOutputs.eval (s : State) (v : Evaluator) : KeepsOutputs s (s.setEval v) := .of_eq rfl rfl
theorem KeepsOutputs.table (s : State) (v : ContextTable) : KeepsOutputs s (s.setTable v) := .of_eq rfl rfl

theorem settle_keepsOutputs (s : State) : KeepsOutputs s (settle s) := by
  intro hs
  obtain ⟨ho, hc⟩ := settle_quiet hs
  exact ⟨ho, by rw [hc, hs]⟩

theorem raiseNotice_keepsOutputs (g : Option Gate) (n : Notice) (s : State) : KeepsOutputs s (raiseNotice g n s) :=
  .of_eq (raiseNotice_out g n s) (raiseNotice_closing g n s)

theorem publishActivation_keepsOutputs (p : Nat) (s : State) : KeepsOutputs s (publishActivation p s) := by
  unfold publishActivation
  split <;> exact .of_eq rfl rfl

theorem takeSnapshot_keepsOutputs (k : SnapshotKind) (s : State) : KeepsOutputs s (takeSnapshot k s) := by
  unfold takeSnapshot
  split <;> exact .of_eq rfl rfl

theorem commitImage_keepsOutputs (s : State) : KeepsOutputs s (commitImage s) := by
  unfold commitImage
  split
  · refine KeepsOutputs.trans ?_ (.of_eq rfl rfl)
    split
    · exact (KeepsOutputs.table s _).trans (publishActivation_keepsOutputs _ _)
    · exact .of_eq rfl rfl
  · exact .of_eq rfl rfl

theorem releaseAtAbandon_keepsOutputs (s : State) : KeepsOutputs s (releaseAtAbandon s) := by
  unfold releaseAtAbandon
  split
  · exact .refl s
  · split
    · exact (takeSnapshot_keepsOutputs _ s).trans (settle_keepsOutputs _)
    · exact (commitImage_keepsOutputs s).trans (settle_keepsOutputs _)
    · exact .refl s

/-! ## The tracker -/

theorem dropBusy_keepsOutputs (s : State) : KeepsOutputs s (dropBusy s) := by
  unfold dropBusy
  split <;> exact .of_eq rfl rfl

theorem abandonWindow_keepsOutputs (r : AbandonReason) (s : State) : KeepsOutputs s (abandonWindow r s) := by
  unfold abandonWindow
  refine KeepsOutputs.trans ?_ (releaseAtAbandon_keepsOutputs _)
  refine KeepsOutputs.trans ?_ ((KeepsOutputs.eval _ _).trans (.asm _ _))
  refine KeepsOutputs.trans ?_ (dropBusy_keepsOutputs _)
  exact (KeepsOutputs.tracker s _).trans (raiseNotice_keepsOutputs _ _ _)

theorem activate_keepsOutputs (pl : Plan) (p : Nat) (s : State) : KeepsOutputs s (activate pl p s) := by
  unfold activate dropHeld
  refine KeepsOutputs.trans ?_ (publishActivation_keepsOutputs _ _)
  exact ((KeepsOutputs.tracker s _).trans (.eval _ _)).trans (raiseNotice_keepsOutputs _ _ _)

theorem enterNoMould_keepsOutputs (n : Option Nat) (s : State) : KeepsOutputs s (enterNoMould n s) := .of_eq rfl rfl

theorem publishZeros_keepsOutputs (s : State) : KeepsOutputs s (publishZeros s) := .of_eq rfl rfl

theorem applyMould_keepsOutputs (pl : Plan) (id : Nat) (s : State) : KeepsOutputs s (applyMould pl id s) := by
  unfold applyMould
  split
  · exact (enterNoMould_keepsOutputs _ s).trans (publishZeros_keepsOutputs _)
  · split
    · exact activate_keepsOutputs _ _ s
    · refine KeepsOutputs.trans ?_ (publishZeros_keepsOutputs _)
      split
      · exact enterNoMould_keepsOutputs _ s
      · exact (enterNoMould_keepsOutputs _ s).trans (raiseNotice_keepsOutputs _ _ _)

theorem mouldPart_keepsOutputs (pl : Plan) (id : Nat) (s : State) : KeepsOutputs s (mouldPart pl id s) := by
  unfold mouldPart
  split
  · exact .refl s
  · split
    · exact applyMould_keepsOutputs _ _ s
    · exact applyMould_keepsOutputs _ _ s
    · exact (abandonWindow_keepsOutputs _ s).trans (applyMould_keepsOutputs _ _ _)
    · exact .refl s

theorem openWindow_keepsOutputs (pl : Plan) (c : Nat) (l : Bool) (s : State) : KeepsOutputs s (openWindow pl c l s) :=
  .of_eq rfl rfl

theorem closeWindow_keepsOutputs (d : Bool) (s : State) : KeepsOutputs s (closeWindow d s) := fun _ => ⟨rfl, rfl⟩

theorem armedPhase_keepsOutputs (pl : Plan) (w : StateWord) (s : State) : KeepsOutputs s (armedPhase pl w s) := by
  unfold armedPhase
  split
  case h_1 =>
    split
    · exact .refl s
    · exact openWindow_keepsOutputs _ _ _ s
  all_goals exact .refl s

theorem openPhase_keepsOutputs (w : StateWord) (s : State) : KeepsOutputs s (openPhase w s) := by
  unfold openPhase
  split
  case h_1 =>
    split
    · exact .refl s
    · exact closeWindow_keepsOutputs _ s
  case h_5 => exact abandonWindow_keepsOutputs _ s
  all_goals exact closeWindow_keepsOutputs _ s

/-- In CLOSING the phase part sets the deferred-open flag at most, so it keeps the outputs whatever step 4 has left. -/
theorem closingPhase_frame (w : StateWord) (s : State) :
    (closingPhase w s).out = s.out ∧ (closingPhase w s).closing = s.closing := by
  unfold closingPhase
  split <;> exact ⟨rfl, rfl⟩

theorem phasePart_keepsOutputs (pl : Plan) (w : StateWord) (s : State) : KeepsOutputs s (phasePart pl w s) := by
  unfold phasePart
  split
  · exact .refl s
  · exact armedPhase_keepsOutputs pl w s
  · exact openPhase_keepsOutputs w s
  · obtain ⟨ho, hc⟩ := closingPhase_frame w s
    exact .of_eq ho hc

theorem mouldPart_of_closing (pl : Plan) (id : Nat) {s : State} (h : s.tracker.state = .closing) :
    mouldPart pl id s = s := by
  unfold mouldPart
  rw [h]
  exact ite_self s

theorem phasePart_of_closing (pl : Plan) (w : StateWord) {s : State} (h : s.tracker.state = .closing) :
    phasePart pl w s = closingPhase w s := by
  unfold phasePart
  rw [h]

@[simp] theorem clearAbandoned_out (w : StateWord) (b : Bool) (s : State) : (clearAbandoned w b s).out = s.out := by
  unfold clearAbandoned
  split <;> rfl

/-! ## An accepted word -/

/-- Items of step 4 are left in CLOSING only (R13). -/
theorem State.Consistent.closing_or_noItems {s : State} (h : s.Consistent) :
    s.tracker.state = .closing ∨ s.closing.items = [] := by
  by_contra hn
  obtain ⟨hstate, hitems⟩ := not_or.mp hn
  have hplacing := h.items hitems
  rw [h.closing.mpr hstate] at hplacing
  cases hplacing

/-- The mould id and the phase of a word keep the outputs: in CLOSING nothing is released, and elsewhere no item of step 4
is left that the release of waiting work could push. -/
theorem mouldAndPhase_out (pl : Plan) (w : StateWord) {s : State}
    (h : s.tracker.state = .closing ∨ s.closing.items = []) :
    (phasePart pl w (mouldPart pl w.mould s)).out = s.out := by
  rcases h with hstate | hitems
  · rw [mouldPart_of_closing pl _ hstate, phasePart_of_closing pl w hstate]
    exact (closingPhase_frame w s).1
  · exact ((mouldPart_keepsOutputs pl _ s).trans (phasePart_keepsOutputs pl w _) hitems).1

/-- An accepted word acts on the outputs by the DEMOULD-entry event alone (R12). -/
theorem handleWord_out (pl : Plan) (w : StateWord) {s : State}
    (h : s.tracker.state = .closing ∨ s.closing.items = []) :
    (handleWord pl w s).out = if demouldEntry w s.tracker.last then (advanceMarks pl w.cycle s).out else s.out := by
  unfold handleWord
  simp only [clearAbandoned_out]
  split
  · rw [mouldAndPhase_out pl w (by simpa using h)]
    exact advanceMarks_out_congr pl _ rfl
  · exact mouldAndPhase_out pl w h

/-- A full-lane write of an accepted state word ends in the handling of that word. -/
theorem endsIn_handleWord {s : State} {pl : Plan} {a : Addr} {d : Word} {w : StateWord} (hs : s.takes)
    (ha : a.toNat % 4 = 0) (hat : s.stateWordAt pl a.toNat) (hw : readStateWord d = some w) :
    EndsIn (exec (.pressStateWord (oneWord a d 15)) s) (handleWord pl w (mergeAndForward (oneWord a d 15) s)) := by
  have hrow : Instr.pressStateWord (oneWord a d 15) ∈ writeRows (oneWord a d 15) := by simp [writeRows]
  have hsnoop := snoopWord_stateWord (m := mergeAndForward (oneWord a d 15) s) { data := d, lanes := 15 } hat rfl rfl
  rw [exec_oneWord ha hs hrow, hsnoop]
  simp only [examineStateWord, hw, if_true]
  exact endsIn_settle _

/-- Settles O13: the event removes the reached front of the queue, and an accepted word changes the outputs by the event
alone. -/
theorem demouldAdvancesMarks : Obligations.DemouldAdvancesMarks := by
  refine ⟨fun s pl c gone rest hsplit hgone hrest => ?_, fun s pl a d w hcons hs ha hat hw => ?_⟩
  · simp only [← markReached_iff] at hgone hrest
    exact advanceMarks_of_split pl c hsplit hgone hrest
  · have hout : (handleWord pl w (mergeAndForward (oneWord a d 15) s)).out
        = if demouldEntry w s.tracker.last then (advanceMarks pl w.cycle s).out else s.out := by
      rw [← advanceMarks_out_congr pl w.cycle (s := s) (t := mergeAndForward (oneWord a d 15) s) rfl]
      exact handleWord_out pl w hcons.closing_or_noItems
    refine ⟨_, endsIn_handleWord hs ha hat hw, fun hd hprev => ?_, fun hno => ?_⟩
    · exact hout.trans (if_pos ((demouldEntry_iff ..).mpr ⟨hd, hprev⟩))
    · have hentry : ¬ demouldEntry w s.tracker.last = true := by
        rw [demouldEntry_iff]
        rintro ⟨hd, hprev⟩
        rcases hno with hphase | ⟨v, hv, hdem⟩
        · exact hphase hd
        · exact hprev v hv hdem
      exact hout.trans (if_neg hentry)

end Sys2Proof.Machine
end

section
/-! PROOFS. What one command can do, said once: every command either leaves the state as it is or has the one effect of its
row, whose condition then holds. -/

namespace Sys2Proof.Machine

/-- The transaction of a controller command, of whatever row (entry 7). -/
def Instr.txn? : Instr → Option Txn
  | .controllerWrite t | .pressStateWord t | .captureRingWrite t | .noticeConsumerWrite t | .mailboxWordWrite t =>
    some (.write t)
  | .controllerRead t => some (.read t)
  | _ => none

/-- The function of an owner's step. -/
def Instr.fn? : Instr → Option Fn
  | .releaseCavity => some .releaseCavity
  | .excludeCavity => some .excludeCavity
  | .includeCavity => some .includeCavity
  | .setPathEnables => some .setPathEnables
  | .acknowledgeStop => some .acknowledgeStop
  | .saveContext => some .saveContext
  | .restoreContext => some .restoreContext
  | .reloadPlan => some .reloadPlan
  | .setOverlay => some .setOverlay
  | .dumpChannels => some .dumpChannels
  | _ => none

/-- The effects of the commands, each with the condition under which it comes about. -/
inductive Effect (s : State) : Instr → State → Prop
  | resetAsserted (b : Bool) : s.resetLow = false → Effect s (.resetAsserted b) (assertReset b s)
  | resetReleased (a1 a0 : Bool) : s.resetLow = true → Effect s (.resetReleased a1 a0) (releaseReset a1 a0 s)
  | transaction (c : Instr) (t : Txn) : Instr.txn? c = some t → t.ok = true → Effect s c (arrive t s)
  | windowLimitExpiry : limitReached s = true → Effect s .windowLimitExpiry (settle (abandonWindow .overlong s))
  | silenceExpiry (w : Fin 4) : silenceReached w.val s = true → Effect s (.silenceExpiry w) (expireSilence w.val s)
  | frameTaken (x : Nat × Bool × Frame) : s.eval.busy = none → earliestFrame s.asm = some x →
      Effect s .frameTaken (takeFrame x.1 x.2.1 x.2.2 s)
  | frameFinished : s.resetLow = false → Effect s .frameFinished (dropBusy s)
  | channelClose (x : CloseInput) : closeDue s = true → closeInput (carryOut s) = some x →
      Effect s .channelClose (settle (closeSteps x (carryOut s)))
  | channelCloseWithoutInput : closeDue s = true → closeInput (carryOut s) = none → Effect s .channelClose (carryOut s)
  | publishWaiting : publishDue s = true → workWaits (swapBanks s) = true →
      Effect s .publish ((swapBanks s).setClosing { (swapBanks s).closing with stage := .published })
  | publish : publishDue s = true → workWaits (swapBanks s) = false →
      Effect s .publish (settle (finishClose (swapBanks s)))
  | waitingWorkReleased : releaseDue s = true →
      Effect s .waitingWorkReleased (settle (finishClose (releaseAtPublish s)))
  | markPulseExpiry : pulseReached s = true → Effect s .markPulseExpiry (s.setOut { s.out with pulse := none })
  | owner (c : Instr) (f : Fn) : Instr.fn? c = some f → s.resetLow = false → handedFn s = some f →
      Effect s c (settle (doWork .atOnce f s))
  | postPerformed : s.resetLow = false → Effect s .postPerformed (performPost s)
  | fetchPerformed : s.resetLow = false → Effect s .fetchPerformed (performFetch s)
  | queueRoomPlacement (p : Producer) : canPlace s p = true → Effect s (.queueRoomPlacement p) (placeNext p s)
  | retryTimerExpiry : retryReached s = true → Effect s .retryTimerExpiry (settle (beginLoad s))
  | lineTick : s.resetLow = false →
      Effect s .lineTick (((tickWindow s).setOut (tickPulse (tickWindow s).out)).setLoader (tickRetry (tickWindow s).loader))

/-- A guarded effect either does not come about or comes about with its guard. -/
theorem next_ite_cases {α φ ρ : Type} {b : Bool} {x s t : α}
    (h : (Host.Outcome.next (if b then x else s) : Host.Outcome α φ ρ) = .next t) : t = s ∨ (b = true ∧ t = x) := by
  cases h
  cases b
  · exact .inl rfl
  · exact .inr ⟨rfl, rfl⟩

/-- While RESET is low a guarded step does nothing. -/
theorem next_reset_cases {α φ ρ : Type} {b : Bool} {x s t : α}
    (h : (Host.Outcome.next (if b then s else x) : Host.Outcome α φ ρ) = .next t) : t = s ∨ (b = false ∧ t = x) := by
  cases h
  cases b
  · exact .inr ⟨rfl, rfl⟩
  · exact .inl rfl

theorem submit_cases {t : Txn} {s u : State} (h : submit t s = .next u) : t.ok = true ∧ u = arrive t s := by
  unfold submit at h
  split at h
  next ht => cases h; exact ⟨ht, rfl⟩
  · cases h

theorem ownerStep_cases {f : Fn} {s t : State} (h : ownerStep f s = .next t) :
    t = s ∨ (s.resetLow = false ∧ handedFn s = some f ∧ t = settle (doWork .atOnce f s)) := by
  obtain rfl | ⟨hr, rfl⟩ := next_reset_cases h
  · exact .inl rfl
  · split
    next hf => exact .inr ⟨hr, hf, rfl⟩
    · exact .inl rfl

/-- Every command that answers a next state leaves the state as it is or has the effect of its row. -/
theorem exec_cases {c : Instr} {s t : State} (h : exec c s = .next t) : t = s ∨ Effect s c t := by
  have owner : ∀ f, Instr.fn? c = some f → ownerStep f s = .next t → t = s ∨ Effect s c t := by
    intro f hf hc
    obtain rfl | ⟨hr, hh, rfl⟩ := ownerStep_cases hc
    · exact .inl rfl
    · exact .inr (.owner c f hf hr hh)
  have port : ∀ x, Instr.txn? c = some x → submit x s = .next t → t = s ∨ Effect s c t := by
    intro x hx hc
    obtain ⟨hok, rfl⟩ := submit_cases hc
    exact .inr (.transaction c x hx hok)
  cases c with
  | resetAsserted b => obtain rfl | ⟨hr, rfl⟩ := next_reset_cases h; exacts [.inl rfl, .inr (.resetAsserted b hr)]
  | resetReleased a1 a0 =>
    rcases next_ite_cases h with ht | ⟨hr, ht⟩
    · exact .inl ht
    · rw [ht]
      exact .inr (.resetReleased a1 a0 hr)
  | controllerWrite t => exact port _ rfl h
  | controllerRead t => exact port _ rfl h
  | pressStateWord t => exact port _ rfl h
  | captureRingWrite t => exact port _ rfl h
  | noticeConsumerWrite t => exact port _ rfl h
  | mailboxWordWrite t => exact port _ rfl h
  | windowLimitExpiry =>
    obtain rfl | ⟨-, rfl⟩ := next_reset_cases h
    · exact .inl rfl
    · split
      next hl => exact .inr (.windowLimitExpiry hl)
      · exact .inl rfl
  | silenceExpiry w =>
    obtain rfl | ⟨-, rfl⟩ := next_reset_cases h
    · exact .inl rfl
    · split
      next hl => exact .inr (.silenceExpiry w hl)
      · exact .inl rfl
  | frameTaken =>
    obtain rfl | ⟨-, rfl⟩ := next_reset_cases h
    · exact .inl rfl
    · split
      next x hb hx => exact .inr (.frameTaken x hb hx)
      · exact .inl rfl
      · exact .inl rfl
  | channelClose =>
    obtain rfl | ⟨-, rfl⟩ := next_reset_cases h
    · exact .inl rfl
    · split
      next hd =>
        simp only
        split
        next x hx => exact .inr (.channelClose x hd hx)
        next hx => exact .inr (.channelCloseWithoutInput hd hx)
      · exact .inl rfl
  | publish =>
    obtain rfl | ⟨-, rfl⟩ := next_reset_cases h
    · exact .inl rfl
    · split
      next hd =>
        simp only
        split
        next hw => exact .inr (.publishWaiting hd hw)
        next hw => exact .inr (.publish hd (by simpa using hw))
      · exact .inl rfl
  | waitingWorkReleased =>
    obtain rfl | ⟨-, rfl⟩ := next_reset_cases h
    · exact .inl rfl
    · split
      next hd => exact .inr (.waitingWorkReleased hd)
      · exact .inl rfl
  | markPulseExpiry =>
    obtain rfl | ⟨-, rfl⟩ := next_reset_cases h
    · exact .inl rfl
    · split
      next hd => exact .inr (.markPulseExpiry hd)
      · exact .inl rfl
  | releaseCavity => exact owner _ rfl h
  | excludeCavity => exact owner _ rfl h
  | includeCavity => exact owner _ rfl h
  | setPathEnables => exact owner _ rfl h
  | acknowledgeStop => exact owner _ rfl h
  | saveContext => exact owner _ rfl h
  | restoreContext => exact owner _ rfl h
  | reloadPlan => exact owner _ rfl h
  | setOverlay => exact owner _ rfl h
  | dumpChannels => exact owner _ rfl h
  | postPerformed => obtain rfl | ⟨hr, rfl⟩ := next_reset_cases h; exacts [.inl rfl, .inr (.postPerformed hr)]
  | fetchPerformed => obtain rfl | ⟨hr, rfl⟩ := next_reset_cases h; exacts [.inl rfl, .inr (.fetchPerformed hr)]
  | queueRoomPlacement p =>
    obtain rfl | ⟨-, rfl⟩ := next_reset_cases h
    · exact .inl rfl
    · split
      next hp => exact .inr (.queueRoomPlacement p hp)
      · exact .inl rfl
  | retryTimerExpiry =>
    obtain rfl | ⟨-, rfl⟩ := next_reset_cases h
    · exact .inl rfl
    · split
      next hd => exact .inr (.retryTimerExpiry hd)
      · exact .inl rfl
  | lineTick => obtain rfl | ⟨hr, rfl⟩ := next_reset_cases h; exacts [.inl rfl, .inr (.lineTick hr)]
  | frameFinished => obtain rfl | ⟨hr, rfl⟩ := next_reset_cases h; exacts [.inl rfl, .inr (.frameFinished hr)]

/-- Settles O1: a step is defined as that. -/
theorem stepRunsFront : Obligations.StepRunsFront := by
  intro c cs s h
  simp only [step, h]

/-- A step idles, or runs the front command on the state with the queue's rest. -/
theorem step_cases {s t : State} (h : step s = .next t) :
    t = s ∨ ∃ c cs, s.pending = c :: cs ∧ (t = s.setPending cs ∨ Effect (s.setPending cs) c t) := by
  cases hp : s.pending with
  | nil =>
    simp only [step, hp] at h
    cases h
    exact .inl rfl
  | cons c cs => exact .inr ⟨c, cs, rfl, exec_cases (stepRunsFront c cs s hp ▸ h)⟩

end Sys2Proof.Machine
end

section
/-! PROOFS. The bounds of the manual under every step (R115, R116, R134, R135, R138): each operation keeps them, so every
command does. -/

namespace Sys2Proof.Machine

/-- Going from `s` to `t` keeps the bounds of the manual and leaves no POST with all four lanes overwritten. -/
structure KeepsBounds (s t : State) : Prop where
  bounded : s.Bounded → t.Bounded
  stays : s.NoneOverwritten → t.NoneOverwritten

theorem KeepsBounds.refl (s : State) : KeepsBounds s s := ⟨id, id⟩

theorem KeepsBounds.trans {s t u : State} (h : KeepsBounds s t) (g : KeepsBounds t u) : KeepsBounds s u :=
  ⟨g.bounded ∘ h.bounded, g.stays ∘ h.stays⟩

/-! ## Updates of one field -/

theorem KeepsBounds.tracker (s : State) (v : Tracker) : KeepsBounds s (s.setTracker v) :=
  ⟨fun h => { h with }, fun h => { h with }⟩
theorem KeepsBounds.closing (s : State) (v : Closing) : KeepsBounds s (s.setClosing v) :=
  ⟨fun h => { h with }, fun h => { h with }⟩
theorem KeepsBounds.report (s : State) (v : Report) : KeepsBounds s (s.setReport v) :=
  ⟨fun h => { h with }, fun h => { h with }⟩
theorem KeepsBounds.mail (s : State) (v : Mailbox) : KeepsBounds s (s.setMail v) :=
  ⟨fun h => { h with }, fun h => { h with }⟩
theorem KeepsBounds.pending (s : State) (v : List Instr) : KeepsBounds s (s.setPending v) :=
  ⟨fun h => { h with }, fun h => { h with }⟩

theorem KeepsBounds.mem (s : State) (v : List Host.Cell) (hv : memWf s.mem = true → memWf v = true) :
    KeepsBounds s (s.setMem v) :=
  ⟨fun h => { h with memory := hv h.memory }, fun h => { h with }⟩

theorem KeepsBounds.asm (s : State) (v : List Assembler) (hv : v.length = s.asm.length) : KeepsBounds s (s.setAsm v) :=
  ⟨fun h => { h with assemblers := hv.trans h.assemblers }, fun h => { h with }⟩

theorem KeepsBounds.eval (s : State) (v : Evaluator) (ha : s.eval.accums.length = 64 → v.accums.length = 64 := by exact id)
    (hd : s.eval.dump.all Entry.stays = true → v.dump.all Entry.stays = true := by exact id) : KeepsBounds s (s.setEval v) :=
  ⟨fun h => { h with accums := ha h.accums }, fun h => { h with dump := hd h.dump }⟩

theorem KeepsBounds.table (s : State) (v : ContextTable)
    (hv : s.table.items.all Entry.stays = true → v.items.all Entry.stays = true := by exact id) : KeepsBounds s (s.setTable v) :=
  ⟨fun h => { h with }, fun h => { h with image := hv h.image }⟩

theorem KeepsBounds.loader (s : State) (v : Loader)
    (hv : s.loader.items.all Entry.stays = true → v.items.all Entry.stays = true := by exact id) : KeepsBounds s (s.setLoader v) :=
  ⟨fun h => { h with }, fun h => { h with fetches := hv h.fetches }⟩

theorem KeepsBounds.out (s : State) (v : Outputs) (hv : v.marks.length ≤ s.out.marks.length := by exact le_rfl) : KeepsBounds s (s.setOut v) :=
  ⟨fun h => { h with marks := hv.trans h.marks }, fun h => { h with }⟩

theorem KeepsBounds.path (s : State) (v : MemoryPath)
    (ht : s.path.turn ≤ Config.turnLimit → v.turn ≤ Config.turnLimit := by exact id)
    (hl : v.queue.length ≤ s.path.queue.length := by exact le_rfl)
    (hs : s.path.queue.all Entry.stays = true → v.queue.all Entry.stays = true := by exact id) : KeepsBounds s (s.setPath v) :=
  ⟨fun h => { h with queue := hl.trans h.queue, turn := ht h.turn }, fun h => { h with queue := hs h.queue }⟩

/-! ## The placing of waiting entries -/

theorem raiseNotice_keepsBounds (g : Option Gate) (n : Notice) (s : State) : KeepsBounds s (raiseNotice g n s) := by
  obtain h | h := raiseNotice_cases g n s
  · rw [h]; exact .refl s
  · rw [h]; exact .report _ _

theorem complete_keepsBounds (r : Result) (s : State) : KeepsBounds s (complete r s) := .mail _ _

theorem setPhase_keepsBounds (p : WorkPhase) (s : State) : KeepsBounds s (setPhase p s) := .mail _ _

theorem pushMark_stays (c t : Nat) (s : State) (h : s.NoneOverwritten) : (pushMark c t s).NoneOverwritten := by
  obtain ⟨-, e⟩ | ⟨-, e⟩ := pushMark_cases c t s
  · rw [e]; exact { h with }
  · rw [e]; exact (raiseNotice_keepsBounds _ _ s).stays h

theorem raiseDue_stays (items : List StepItem) (s : State) (h : s.NoneOverwritten) :
    (raiseDue items s).NoneOverwritten := by
  induction items generalizing s with
  | nil => exact { h with }
  | cons i r ih =>
    cases i with
    | post a w => exact { h with }
    | notice n =>
      have hn := (raiseNotice_keepsBounds (some .closeStep) n s).stays h
      simp only [raiseDue]
      split
      · exact (KeepsBounds.closing _ _).stays hn
      · exact ih _ hn
    | markPush c t =>
      have hn := pushMark_stays c t s h
      simp only [raiseDue]
      split
      · exact (KeepsBounds.closing _ _).stays hn
      · exact ih _ hn

theorem advance_stays (s : State) (h : s.NoneOverwritten) : (advance s).NoneOverwritten := by
  unfold advance
  split
  · exact h
  · exact raiseDue_stays _ s h

/-- An entry that has not lost its four lanes may join the queue. -/
theorem enqueue_stays {e : Entry} {s : State} (he : e.stays = true) (h : s.NoneOverwritten) :
    (enqueue e s).NoneOverwritten :=
  { h with queue := by simp [enqueue_queue, h.queue, he] }

theorem placeReport_stays (s : State) (h : s.NoneOverwritten) : (placeReport s).NoneOverwritten := by
  have hreport : ∀ v : Report, (s.setReport v).NoneOverwritten := fun v => (KeepsBounds.report s v).stays h
  unfold placeReport
  split
  · exact h
  · exact enqueue_stays rfl (hreport _)
  · unfold placeNotice
    split
    · exact enqueue_stays rfl (hreport _)
    · split
      · exact hreport _
      · exact enqueue_stays rfl (hreport _)
  · exact hreport _
  · exact enqueue_stays rfl (hreport _)
  · exact enqueue_stays rfl (hreport _)
  · exact hreport _

theorem placeStatus_stays (s : State) (h : s.NoneOverwritten) : (placeStatus s).NoneOverwritten := by
  have hmail : ∀ v : Mailbox, (s.setMail v).NoneOverwritten := fun v => (KeepsBounds.mail s v).stays h
  unfold placeStatus raiseRequestDone
  split
  · exact h
  · exact enqueue_stays rfl (hmail _)
  · exact (raiseNotice_keepsBounds _ _ _).stays (enqueue_stays rfl (hmail _))
  · exact (raiseNotice_keepsBounds _ _ _).stays (enqueue_stays rfl (hmail _))

theorem placeImage_stays (s : State) (h : s.NoneOverwritten) : (placeImage s).NoneOverwritten := by
  have himage := h.image
  unfold placeImage
  split
  · exact h
  next e he =>
    simp only [he, List.all_cons, List.all_nil, Bool.and_true] at himage
    have hplaced := enqueue_stays himage ((KeepsBounds.table s { s.table with items := [] } fun _ => rfl).stays h)
    simp only
    split
    · exact (complete_keepsBounds _ _).stays { hplaced with }
    · exact hplaced
  next e r hne he =>
    simp only [he, List.all_cons, Bool.and_eq_true] at himage
    exact enqueue_stays himage.1 ((KeepsBounds.table s { s.table with items := r } fun _ => himage.2).stays h)

theorem placeDump_stays (s : State) (h : s.NoneOverwritten) : (placeDump s).NoneOverwritten := by
  have hdump := h.dump
  unfold placeDump
  split
  · exact h
  next e he =>
    simp only [he, List.all_cons, List.all_nil, Bool.and_true] at hdump
    have hplaced := enqueue_stays hdump ((KeepsBounds.eval s { s.eval with dump := [] } id fun _ => rfl).stays h)
    simp only
    split
    · exact (complete_keepsBounds _ _).stays hplaced
    · exact hplaced
  next e r hne he =>
    simp only [he, List.all_cons, Bool.and_eq_true] at hdump
    exact enqueue_stays hdump.1 ((KeepsBounds.eval s { s.eval with dump := r } id fun _ => hdump.2).stays h)

theorem placeFetch_stays (s : State) (h : s.NoneOverwritten) : (placeFetch s).NoneOverwritten := by
  have hfetches := h.fetches
  unfold placeFetch
  split
  · exact h
  next e r he =>
    simp only [he, List.all_cons, Bool.and_eq_true] at hfetches
    exact enqueue_stays hfetches.1 ((KeepsBounds.loader s { s.loader with items := r } fun _ => hfetches.2).stays h)

theorem placeNext_stays (p : Producer) (s : State) (h : s.NoneOverwritten) : (placeNext p s).NoneOverwritten := by
  refine advance_stays _ ?_
  cases p with
  | reportWriter => exact placeReport_stays s h
  | mailbox => exact placeStatus_stays s h
  | contextTable => exact placeImage_stays s h
  | channelEvaluator => exact placeDump_stays s h
  | planLoader => exact placeFetch_stays s h

theorem placeUpTo_stays (n : Nat) (s : State) (h : s.NoneOverwritten) : (placeUpTo n s).NoneOverwritten := by
  induction n generalizing s with
  | zero => exact h
  | succ n ih =>
    unfold placeUpTo
    split
    · exact h
    · exact ih _ (placeNext_stays _ s h)

/-- What the placing of entries keeps: everything bounded but the two queues is as it was. -/
theorem Settled.bounded {s t : State} (g : Settled s t) (h : s.Bounded) (hq : t.path.queue.length ≤ Config.queueCapacity)
    (hm : t.out.marks.length ≤ Config.markCapacity) : t.Bounded where
  memory := g.mem ▸ h.memory
  queue := hq
  turn := g.turn ▸ h.turn
  marks := hm
  assemblers := g.asm ▸ h.assemblers
  accums := g.accums ▸ h.accums

theorem settle_keepsBounds (s : State) : KeepsBounds s (settle s) where
  bounded h := (settle_settled s).bounded h (settle_queue_length s h.queue) (settle_marks s h.marks)
  stays h := placeUpTo_stays _ _ (advance_stays s h)

/-- One entry is placed while there is room for it. -/
theorem placeNext_keepsBounds {p : Producer} {s : State} (hp : canPlace s p = true) : KeepsBounds s (placeNext p s) where
  bounded h := (placeNext_settled p s).bounded h ((place_queue_length p s).trans (canPlace_hasRoom hp))
    (placeNext_marks p s h.marks)
  stays h := placeNext_stays p s h

/-! ## Contexts and requests -/

theorem setPublished_keepsBounds (b : List Word) (s : State) : KeepsBounds s (setPublished b s) := .report _ _

theorem publishActivation_keepsBounds (p : Nat) (s : State) : KeepsBounds s (publishActivation p s) := by
  unfold publishActivation
  split
  · exact setPublished_keepsBounds _ s
  · exact .refl s

theorem publishZeros_keepsBounds (s : State) : KeepsBounds s (publishZeros s) := setPublished_keepsBounds _ s

theorem postEntries_stays (a : Nat) (ws : List Word) : (postEntries a ws).all Entry.stays = true := by
  simp only [postEntries, List.all_map, List.all_eq_true]
  exact fun _ _ => rfl

theorem takeSnapshot_keepsBounds (k : SnapshotKind) (s : State) : KeepsBounds s (takeSnapshot k s) := by
  unfold takeSnapshot
  split
  · exact (KeepsBounds.table s _ fun _ => postEntries_stays _ _).trans (setPhase_keepsBounds _ _)
  · exact complete_keepsBounds _ s
  · exact complete_keepsBounds _ s

theorem fetches_stay (f : Nat → Nat) (d : Dest) (xs : List Nat) :
    (xs.map fun i => Entry.fetch (f i) d).all Entry.stays = true := by
  simp only [List.all_map, List.all_eq_true]
  exact fun _ _ => rfl

theorem beginRestore_keepsBounds (s : State) : KeepsBounds s (beginRestore s) := by
  unfold beginRestore
  split
  · exact (KeepsBounds.table s _ fun _ => fetches_stay _ _ _).trans (setPhase_keepsBounds _ _)
  · exact complete_keepsBounds _ s

theorem commitImage_keepsBounds (s : State) : KeepsBounds s (commitImage s) := by
  unfold commitImage
  split
  · refine KeepsBounds.trans ?_ (complete_keepsBounds _ _)
    split
    · exact (KeepsBounds.table s _).trans (publishActivation_keepsBounds _ _)
    · exact .table s _
  · exact complete_keepsBounds _ s

theorem checkImage_keepsBounds (q : ProfilePlan) (s : State) : KeepsBounds s (checkImage q s) := by
  unfold checkImage
  split
  · exact (KeepsBounds.table s _).trans (complete_keepsBounds _ _)
  · split
    · exact (KeepsBounds.table s _).trans (complete_keepsBounds _ _)
    · split
      · exact setPhase_keepsBounds _ s
      · exact commitImage_keepsBounds s

theorem receiveImageWord_keepsBounds (w : Word) (s : State) : KeepsBounds s (receiveImageWord w s) := by
  unfold receiveImageWord
  split
  · split
    · simp only
      split
      · exact ((KeepsBounds.table s _).trans (checkImage_keepsBounds _ _)).trans (settle_keepsBounds _)
      · exact .table s _
    · exact .refl s
  · exact .refl s

theorem releaseAtAbandon_keepsBounds (s : State) : KeepsBounds s (releaseAtAbandon s) := by
  unfold releaseAtAbandon
  split
  · exact .refl s
  · split
    · exact (takeSnapshot_keepsBounds _ s).trans (settle_keepsBounds _)
    · exact (commitImage_keepsBounds s).trans (settle_keepsBounds _)
    · exact .refl s

theorem setCavity_keepsBounds (p c : Nat) (v : CavityCtx) (s : State) : KeepsBounds s (setCavity p c v s) := by
  unfold setCavity
  split
  · exact .table s _
  · exact .refl s

theorem changeCavity_keepsBounds (f : CavityCtx → CavityCtx) (s : State) : KeepsBounds s (changeCavity f s) := by
  unfold changeCavity
  split
  · exact complete_keepsBounds _ s
  · simp only
    split
    · exact (setCavity_keepsBounds _ _ _ s).trans (complete_keepsBounds _ _)
    · exact ((setCavity_keepsBounds _ _ _ s).trans (raiseNotice_keepsBounds _ _ _)).trans (complete_keepsBounds _ _)

/-! ## The tracker -/

theorem emptySlot_keepsBounds (i : Nat) (b : Bool) (s : State) : KeepsBounds s (emptySlot i b s) :=
  .asm _ _ (List.length_set ..)

theorem dropBusy_keepsBounds (s : State) : KeepsBounds s (dropBusy s) := by
  unfold dropBusy
  split
  · exact .refl s
  · exact (emptySlot_keepsBounds _ _ s).trans (.eval _ _)

theorem advanceMarks_keepsBounds (pl : Plan) (c : Nat) (s : State) : KeepsBounds s (advanceMarks pl c s) := by
  unfold advanceMarks firePulse
  simp only
  split
  next h => exact (KeepsBounds.out s _ h.le).trans (.out _ _)
  · exact .refl s

theorem openAssemblers_length (n : Nat) (xs : List Assembler) : (openAssemblers n xs).length = xs.length := by
  induction xs generalizing n with
  | nil => simp [openAssemblers]
  | cons x xs ih =>
    cases n with
    | zero => rfl
    | succ n => simp [openAssemblers, ih]

theorem openWindow_keepsBounds (pl : Plan) (c : Nat) (l : Bool) (s : State) : KeepsBounds s (openWindow pl c l s) :=
  ((KeepsBounds.tracker s _).trans (.asm _ _ (openAssemblers_length _ _))).trans
    (.eval _ _ (fun _ => by simp [openAccums]))

theorem closeWindow_keepsBounds (d : Bool) (s : State) : KeepsBounds s (closeWindow d s) :=
  ((KeepsBounds.tracker s _).trans (.asm _ _ (List.length_map ..))).trans (.closing _ _)

theorem abandonWindow_keepsBounds (r : AbandonReason) (s : State) : KeepsBounds s (abandonWindow r s) := by
  unfold abandonWindow
  refine KeepsBounds.trans ?_ (releaseAtAbandon_keepsBounds _)
  refine KeepsBounds.trans ?_ (.asm _ _ (List.length_map ..))
  refine KeepsBounds.trans ?_ (.eval _ _ (fun _ => List.length_replicate ..))
  exact ((KeepsBounds.tracker s _).trans (raiseNotice_keepsBounds _ _ _)).trans (dropBusy_keepsBounds _)

theorem dropHeld_keepsBounds (s : State) : KeepsBounds s (dropHeld s) := .eval _ _

theorem enterNoMould_keepsBounds (n : Option Nat) (s : State) : KeepsBounds s (enterNoMould n s) :=
  (KeepsBounds.tracker s _).trans (dropHeld_keepsBounds _)

theorem activate_keepsBounds (pl : Plan) (p : Nat) (s : State) : KeepsBounds s (activate pl p s) :=
  (((KeepsBounds.tracker s _).trans (dropHeld_keepsBounds _)).trans (raiseNotice_keepsBounds _ _ _)).trans
    (publishActivation_keepsBounds _ _)

theorem applyMould_keepsBounds (pl : Plan) (id : Nat) (s : State) : KeepsBounds s (applyMould pl id s) := by
  unfold applyMould
  split
  · exact (enterNoMould_keepsBounds _ s).trans (publishZeros_keepsBounds _)
  · split
    · exact activate_keepsBounds _ _ s
    · refine KeepsBounds.trans ?_ (publishZeros_keepsBounds _)
      split
      · exact enterNoMould_keepsBounds _ s
      · exact (enterNoMould_keepsBounds _ s).trans (raiseNotice_keepsBounds _ _ _)

theorem mouldPart_keepsBounds (pl : Plan) (id : Nat) (s : State) : KeepsBounds s (mouldPart pl id s) := by
  unfold mouldPart
  split
  · exact .refl s
  · split
    · exact applyMould_keepsBounds _ _ s
    · exact applyMould_keepsBounds _ _ s
    · exact (abandonWindow_keepsBounds _ s).trans (applyMould_keepsBounds _ _ _)
    · exact .refl s

theorem armedPhase_keepsBounds (pl : Plan) (w : StateWord) (s : State) : KeepsBounds s (armedPhase pl w s) := by
  unfold armedPhase
  split
  case h_1 =>
    split
    · exact .refl s
    · exact openWindow_keepsBounds _ _ _ s
  all_goals exact .refl s

theorem openPhase_keepsBounds (w : StateWord) (s : State) : KeepsBounds s (openPhase w s) := by
  unfold openPhase
  split
  case h_1 =>
    split
    · exact .refl s
    · exact closeWindow_keepsBounds _ s
  case h_5 => exact abandonWindow_keepsBounds _ s
  all_goals exact closeWindow_keepsBounds _ s

theorem closingPhase_keepsBounds (w : StateWord) (s : State) : KeepsBounds s (closingPhase w s) := by
  unfold closingPhase
  split
  case h_1 => exact .tracker _ _
  all_goals exact .refl s

theorem phasePart_keepsBounds (pl : Plan) (w : StateWord) (s : State) : KeepsBounds s (phasePart pl w s) := by
  unfold phasePart
  split
  · exact .refl s
  · exact armedPhase_keepsBounds pl w s
  · exact openPhase_keepsBounds w s
  · exact closingPhase_keepsBounds w s

theorem clearAbandoned_keepsBounds (w : StateWord) (b : Bool) (s : State) : KeepsBounds s (clearAbandoned w b s) := by
  unfold clearAbandoned
  split
  · exact .tracker _ _
  · exact .refl s

theorem handleWord_keepsBounds (pl : Plan) (w : StateWord) (s : State) : KeepsBounds s (handleWord pl w s) := by
  unfold handleWord
  refine KeepsBounds.trans ?_ (clearAbandoned_keepsBounds _ _ _)
  refine KeepsBounds.trans ?_ (phasePart_keepsBounds _ _ _)
  refine KeepsBounds.trans ?_ (mouldPart_keepsBounds _ _ _)
  simp only
  split
  · exact (KeepsBounds.tracker s _).trans (advanceMarks_keepsBounds _ _ _)
  · exact .tracker _ _

theorem examineStateWord_keepsBounds (pl : Plan) (d : WriteWord) (s : State) : KeepsBounds s (examineStateWord pl d s) := by
  unfold examineStateWord
  split
  · split
    · exact (handleWord_keepsBounds _ _ s).trans (settle_keepsBounds _)
    · exact .refl s
  · exact .refl s

theorem settleMould_keepsBounds (pl : Plan) (s : State) : KeepsBounds s (settleMould pl s) := by
  unfold settleMould
  split
  · exact .refl s
  · split
    · exact .refl s
    · exact applyMould_keepsBounds _ _ s

theorem settleOpen_keepsBounds (pl : Plan) (s : State) : KeepsBounds s (settleOpen pl s) := by
  unfold settleOpen
  split
  · split
    · exact openWindow_keepsBounds _ _ _ s
    · exact .tracker _ _
  · exact .tracker _ _

theorem stepSix_keepsBounds (pl : Plan) (s : State) : KeepsBounds s (stepSix pl s) :=
  (((KeepsBounds.tracker s _).trans (.closing _ _)).trans (settleMould_keepsBounds _ _)).trans (settleOpen_keepsBounds _ _)

/-! ## The assemblers and the evaluator -/

theorem setAssembler_keepsBounds (s : State) (i : Nat) (x : Assembler) : KeepsBounds s (s.setAssembler i x) :=
  .asm _ _ (List.length_set ..)

theorem raiseCaptureFault_keepsBounds (i : Nat) (f : CaptureFault) (s : State) : KeepsBounds s (raiseCaptureFault i f s) :=
  (raiseNotice_keepsBounds _ _ s).trans (settle_keepsBounds _)

theorem offerFrame_keepsBounds (i : Nat) (f : Frame) (s : State) : KeepsBounds s (offerFrame i f s) := by
  unfold offerFrame
  simp only
  split
  · exact setAssembler_keepsBounds s _ _
  · exact setAssembler_keepsBounds s _ _
  · split
    · split
      · exact setAssembler_keepsBounds s _ _
      · exact (setAssembler_keepsBounds s _ _).trans (raiseCaptureFault_keepsBounds _ _ _)
    · exact .refl s

theorem completeFrame_keepsBounds (i : Nat) (ws : List Word) (s : State) : KeepsBounds s (completeFrame i ws s) :=
  ((setAssembler_keepsBounds s _ _).trans (.eval _ _)).trans (offerFrame_keepsBounds _ _ _)

theorem formatFault_keepsBounds (i : Nat) (s : State) : KeepsBounds s (formatFault i s) := by
  unfold formatFault
  simp only
  split
  · split
    · exact setAssembler_keepsBounds s _ _
    · exact (setAssembler_keepsBounds s _ _).trans (raiseCaptureFault_keepsBounds _ _ _)
  · exact setAssembler_keepsBounds s _ _

theorem expectedWord_keepsBounds (i : Nat) (w : WindowPlan) (a : Nat) (d : Word) (s : State) :
    KeepsBounds s (expectedWord i w a d s) := by
  unfold expectedWord
  simp only
  split
  · split
    · exact setAssembler_keepsBounds s _ _
    · exact formatFault_keepsBounds _ s
  · split
    · exact setAssembler_keepsBounds s _ _
    · exact (setAssembler_keepsBounds s _ _).trans (completeFrame_keepsBounds _ _ _)

theorem sequenceBreak_keepsBounds (i : Nat) (w : WindowPlan) (a : Nat) (d : Word) (s : State) :
    KeepsBounds s (sequenceBreak i w a d s) := by
  unfold sequenceBreak
  simp only
  split <;> exact setAssembler_keepsBounds s _ _

theorem examineRingWord_keepsBounds (i : Nat) (w : WindowPlan) (a : Nat) (d : WriteWord) (s : State) :
    KeepsBounds s (examineRingWord i w a d s) := by
  unfold examineRingWord
  simp only
  split
  · split
    · exact setAssembler_keepsBounds s _ _
    · exact .refl s
  · split
    · exact setAssembler_keepsBounds s _ _
    · split
      · exact expectedWord_keepsBounds i w a _ s
      · exact sequenceBreak_keepsBounds i w a _ s

theorem accumulateSample_accums_length (p : Plan) (e : Evaluator) (x : Nat × Int) :
    (accumulateSample p e x).accums.length = e.accums.length := by
  unfold accumulateSample
  split
  · rfl
  · exact List.length_set ..

theorem accumulateSample_dump (p : Plan) (e : Evaluator) (x : Nat × Int) : (accumulateSample p e x).dump = e.dump := by
  unfold accumulateSample
  split <;> rfl

theorem accumulateSamples_frame (p : Plan) (xs : List (Nat × Int)) (e : Evaluator) :
    (xs.foldl (accumulateSample p) e).accums.length = e.accums.length ∧
      (xs.foldl (accumulateSample p) e).dump = e.dump := by
  induction xs generalizing e with
  | nil => exact ⟨rfl, rfl⟩
  | cons x xs ih =>
    obtain ⟨hl, hd⟩ := ih (accumulateSample p e x)
    exact ⟨hl.trans (accumulateSample_accums_length p e x), hd.trans (accumulateSample_dump p e x)⟩

theorem takeFrame_keepsBounds (i : Nat) (b : Bool) (f : Frame) (s : State) : KeepsBounds s (takeFrame i b f s) := by
  unfold takeFrame
  split
  next pl _ =>
    split
    next w _ _ =>
      obtain ⟨hl, hd⟩ := accumulateSamples_frame pl (frameSamples w f) s.eval
      exact .eval _ _ (fun h => hl.trans h) (fun h => (congrArg (List.all · Entry.stays) hd).trans h)
    · exact emptySlot_keepsBounds _ _ s
    · exact emptySlot_keepsBounds _ _ s
  · exact emptySlot_keepsBounds _ _ s

/-! ## Loads -/

theorem planFetches_stay (s : State) (first n : Nat) : (planFetches s first n).all Entry.stays = true := fetches_stay _ _ _

theorem drop_stays (e : Entry) : e.drop.stays = e.stays := by
  unfold Entry.drop
  split <;> rfl

theorem startLoader_keepsBounds (s : State) : KeepsBounds s (startLoader s) := by
  refine ((KeepsBounds.loader s _ fun _ => planFetches_stay _ _ _).trans (.path _ _ (hl := ?_) (hs := ?_))).trans (.table _ _)
  · exact (List.length_map ..).le
  · intro h
    rw [List.all_map]
    exact (congrArg (List.all _ ·) (funext drop_stays)).trans h

theorem dropCapture_keepsBounds (s : State) : KeepsBounds s (dropCapture s) where
  bounded h := { h with assemblers := List.length_replicate .., accums := List.length_replicate .. }
  stays h := { h with }

theorem beginLoad_keepsBounds (s : State) : KeepsBounds s (beginLoad s) :=
  (((startLoader_keepsBounds s).trans ((KeepsBounds.tracker _ _).trans (.closing _ _))).trans
    (dropCapture_keepsBounds _)).trans (publishZeros_keepsBounds _)

theorem failLoad_keepsBounds (f : PlanFault) (s : State) : KeepsBounds s (failLoad f s) := by
  unfold failLoad
  simp only
  split
  · exact (KeepsBounds.loader s _ fun _ => rfl).trans (complete_keepsBounds _ _)
  · exact .loader s _ fun _ => rfl

theorem doOverlay_keepsBounds (s : State) : KeepsBounds s (doOverlay s) :=
  (KeepsBounds.path s _).trans (complete_keepsBounds _ _)

theorem carryOverlay_keepsBounds (s : State) : KeepsBounds s (carryOverlay s) := by
  obtain h | ⟨-, -, -, -, h⟩ := carryOverlay_cases s
  · rw [h]; exact .refl s
  · rw [h]; exact doOverlay_keepsBounds s

theorem acceptValues_keepsBounds (pl : Plan) (s : State) : KeepsBounds s (acceptValues pl s) := by
  unfold acceptValues
  refine KeepsBounds.trans ?_ (.mail _ _)
  refine KeepsBounds.trans ?_ (.report _ _)
  refine KeepsBounds.trans ?_ (.out _ _ (Nat.zero_le _))
  refine KeepsBounds.trans ?_ (dropCapture_keepsBounds _)
  refine KeepsBounds.trans ?_ (.tracker _ _)
  refine KeepsBounds.trans ?_ (.table _ _)
  exact (carryOverlay_keepsBounds s).trans (.loader _ _ fun _ => rfl)

theorem acceptPlan_keepsBounds (pl : Plan) (n : Nat) (s : State) : KeepsBounds s (acceptPlan pl n s) := by
  have hraised := (acceptValues_keepsBounds pl s).trans (raiseNotice_keepsBounds none
    { kind := .planLoaded, profile := none, subject := pl.serial, cycle := 0, detail := n } _)
  unfold acceptPlan
  simp only
  split
  · exact hraised.trans (complete_keepsBounds _ _)
  · exact hraised

theorem finishLoad_keepsBounds (len : Nat) (s : State) : KeepsBounds s (finishLoad len s) := by
  unfold finishLoad
  split
  · exact acceptPlan_keepsBounds _ _ s
  · exact failLoad_keepsBounds _ s

theorem finishHeader_keepsBounds (s : State) : KeepsBounds s (finishHeader s) := by
  unfold finishHeader
  split
  · simp only
    split
    · exact finishLoad_keepsBounds _ s
    · refine .loader s _ fun h => ?_
      rw [List.all_append, h, planFetches_stay, Bool.and_true]
  · exact failLoad_keepsBounds _ s

theorem receivePlanWord_keepsBounds (w : Word) (s : State) : KeepsBounds s (receivePlanWord w s) := by
  unfold receivePlanWord
  split
  · exact .refl s
  · simp only
    split
    · exact ((KeepsBounds.loader s _).trans (finishHeader_keepsBounds _)).trans (settle_keepsBounds _)
    · exact .loader s _
  · simp only
    split
    · exact ((KeepsBounds.loader s _).trans (finishLoad_keepsBounds _ _)).trans (settle_keepsBounds _)
    · exact .loader s _

theorem startReload_keepsBounds (s : State) : KeepsBounds s (startReload s) :=
  (setPhase_keepsBounds _ s).trans (beginLoad_keepsBounds _)

theorem reloadPlan_keepsBounds (s : State) : KeepsBounds s (reloadPlan s) := by
  unfold reloadPlan
  split
  case h_1 => exact (abandonWindow_keepsBounds _ s).trans (startReload_keepsBounds _)
  case h_2 => exact setPhase_keepsBounds _ s
  all_goals exact startReload_keepsBounds s

/-! ## The mailbox and the requests -/

theorem takeRequest_keepsBounds (s : State) : KeepsBounds s (takeRequest s) := by
  unfold takeRequest
  simp only
  split
  · exact (KeepsBounds.mail s _).trans (complete_keepsBounds _ _)
  · exact .mail s _

theorem collectWord_keepsBounds (d : Word) (s : State) : KeepsBounds s (collectWord d s) := by
  unfold collectWord
  split
  · exact (takeRequest_keepsBounds s).trans (settle_keepsBounds _)
  · split
    · exact (KeepsBounds.mail s _).trans (settle_keepsBounds _)
    · exact .mail s _

theorem examineMailWord_keepsBounds (i : Nat) (d : WriteWord) (s : State) : KeepsBounds s (examineMailWord i d s) := by
  have hmalformed : KeepsBounds s (settle (malformRequest s)) := (KeepsBounds.mail s _).trans (settle_keepsBounds _)
  unfold examineMailWord
  split
  · split
    · exact .mail s _
    · exact .refl s
  · split
    · exact hmalformed
    · split
      · exact .mail s _
      · split
        · exact collectWord_keepsBounds _ s
        · exact hmalformed
  · exact .mail s _

theorem doDump_keepsBounds (s : State) : KeepsBounds s (doDump s) := by
  unfold doDump
  split
  · exact (KeepsBounds.eval s _ (hd := fun _ => postEntries_stays _ _)).trans (setPhase_keepsBounds _ _)
  · exact complete_keepsBounds _ s
  · exact complete_keepsBounds _ s

theorem doWork_keepsBounds (k : SnapshotKind) (f : Fn) (s : State) : KeepsBounds s (doWork k f s) := by
  cases f with
  | releaseCavity => exact changeCavity_keepsBounds _ s
  | excludeCavity => exact changeCavity_keepsBounds _ s
  | includeCavity => exact changeCavity_keepsBounds _ s
  | setPathEnables => exact changeCavity_keepsBounds _ s
  | acknowledgeStop => exact (KeepsBounds.out s _).trans (complete_keepsBounds _ _)
  | saveContext => exact takeSnapshot_keepsBounds k s
  | restoreContext => exact beginRestore_keepsBounds s
  | reloadPlan => exact reloadPlan_keepsBounds s
  | setOverlay => exact doOverlay_keepsBounds s
  | dumpChannels => exact doDump_keepsBounds s

theorem carryOut_keepsBounds (s : State) : KeepsBounds s (carryOut s) := by
  unfold carryOut
  split
  · exact (doWork_keepsBounds _ _ s).trans (settle_keepsBounds _)
  · exact .refl s

theorem releaseAtPublish_keepsBounds (s : State) : KeepsBounds s (releaseAtPublish s) := by
  unfold releaseAtPublish
  split
  · exact .refl s
  · split
    · exact startReload_keepsBounds s
    · exact (doWork_keepsBounds _ _ s).trans (settle_keepsBounds _)
    · exact (commitImage_keepsBounds s).trans (settle_keepsBounds _)
    · exact .refl s

/-! ## Close processing -/

theorem finalAccums_length (rs : List ChanResult) (xs : List Accum) : (finalAccums rs xs).length = xs.length := by
  induction rs generalizing xs with
  | nil => rfl
  | cons r rs ih => rw [finalAccums_cons, ih, List.length_set]

theorem closeSteps_keepsBounds (x : CloseInput) (s : State) : KeepsBounds s (closeSteps x s) := by
  refine KeepsBounds.trans (t := stepOne x (closeChannels s x.plan) s) ?_ ?_
  · exact (KeepsBounds.eval s _ (fun h => (finalAccums_length _ _).trans h)).trans (.table _ _)
  · exact (((KeepsBounds.table _ _).trans (.report _ _)).trans (.out _ _)).trans (.closing _ _)

theorem finishClose_keepsBounds (s : State) : KeepsBounds s (finishClose s) := by
  unfold finishClose
  split
  · exact stepSix_keepsBounds _ s
  · exact .refl s

/-! ## The memory path -/

theorem examineConsumer_keepsBounds (d : WriteWord) (s : State) : KeepsBounds s (examineConsumer d s) := by
  unfold examineConsumer
  split
  · exact .refl s
  · simp only
    split
    · exact .report s _
    · exact .refl s

theorem snoopWord_keepsBounds (s : State) (x : Nat × WriteWord) : KeepsBounds s (snoopWord s x) := by
  unfold snoopWord
  split
  · exact examineMailWord_keepsBounds _ _ s
  · split
    · exact examineConsumer_keepsBounds _ s
    · split
      · exact .refl s
      · split
        · exact examineStateWord_keepsBounds _ _ s
        · split
          · exact examineRingWord_keepsBounds _ _ _ _ s
          · exact .refl s

theorem snoop_keepsBounds (xs : List (Nat × WriteWord)) (s : State) : KeepsBounds s (xs.foldl snoopWord s) := by
  induction xs generalizing s with
  | nil => exact .refl s
  | cons x xs ih => exact (snoopWord_keepsBounds s x).trans (ih _)

/-- A merge only removes entries, and leaves none that has lost its four lanes. -/
theorem mergeWord_bounds (q : List Entry) (x : Nat × WriteWord) :
    (mergeWord q x).length ≤ q.length ∧ (mergeWord q x).all Entry.stays = true := by
  refine ⟨(List.length_filter_le ..).trans (List.length_map ..).le, ?_⟩
  simp only [mergeWord, List.all_eq_true]
  exact fun e he => (List.mem_filter.mp he).2

theorem mergeWords_bounds (xs : List (Nat × WriteWord)) (q : List Entry) :
    (xs.foldl mergeWord q).length ≤ q.length ∧
      (q.all Entry.stays = true → (xs.foldl mergeWord q).all Entry.stays = true) := by
  induction xs generalizing q with
  | nil => exact ⟨le_rfl, id⟩
  | cons x xs ih =>
    obtain ⟨hl, hs⟩ := mergeWord_bounds q x
    obtain ⟨hl', hs'⟩ := ih (mergeWord q x)
    exact ⟨hl'.trans hl, fun _ => hs' hs⟩

theorem memWf_forwardWords (xs : List (Nat × WriteWord)) {m : List Host.Cell} (h : memWf m = true) :
    memWf (xs.foldl forwardWord m) = true := by
  induction xs generalizing m with
  | nil => exact h
  | cons x xs ih => exact ih (memWf_writeLanes h)

theorem countTurn_keepsBounds (s : State) : KeepsBounds s (countTurn s) := .path s _ fun _ => Nat.min_le_left ..

theorem mergeAndForward_keepsBounds (t : WriteBurst) (s : State) : KeepsBounds s (mergeAndForward t s) := by
  obtain ⟨hl, hs⟩ := mergeWords_bounds (placedWords t) s.path.queue
  exact ((KeepsBounds.path s _ (hl := hl) (hs := hs)).trans (.mem _ _ (memWf_forwardWords _))).trans
    (countTurn_keepsBounds _)

theorem takeTxn_keepsBounds (t : Txn) (s : State) : KeepsBounds s (takeTxn t s) := by
  cases t with
  | write w => exact (mergeAndForward_keepsBounds w s).trans (snoop_keepsBounds _ _)
  | read r =>
    simp only [takeTxn, takeRead]
    split
    · exact (KeepsBounds.path s _).trans (countTurn_keepsBounds _)
    · exact .path s _

theorem forwardDirect_keepsBounds (s : State) (t : Txn) : KeepsBounds s (forwardDirect s t) := by
  cases t with
  | write w => exact .mem s _ (memWf_forwardWords _)
  | read r => exact .path s _

theorem arrive_keepsBounds (t : Txn) (s : State) : KeepsBounds s (arrive t s) := by
  unfold arrive
  split
  · exact forwardDirect_keepsBounds s t
  · split
    · exact .path s _
    · exact takeTxn_keepsBounds t s

theorem takeHeld_keepsBounds (ts : List Txn) (s : State) : KeepsBounds s (takeHeld ts s) := by
  induction ts generalizing s with
  | nil => exact .path s _
  | cons t ts ih =>
    unfold takeHeld
    split
    · exact .path s _
    · exact (takeTxn_keepsBounds t s).trans (ih _)

theorem popEntry_keepsBounds {s : State} {e : Entry} {q : List Entry} (h : s.path.queue = e :: q) :
    KeepsBounds s (popEntry q s) := by
  refine .path s _ (fun _ => Nat.zero_le _) (by rw [h]; exact Nat.le_succ _) fun hs => ?_
  rw [h, List.all_cons, Bool.and_eq_true] at hs
  exact hs.2

theorem performPost_keepsBounds (s : State) : KeepsBounds s (performPost s) := by
  unfold performPost
  split
  next a w o q h =>
    exact ((popEntry_keepsBounds h).trans (.mem _ _ memWf_writeWord)).trans (takeHeld_keepsBounds _ _)
  · exact .refl s
  · exact .refl s

theorem deliver_keepsBounds (d : Dest) (w : Word) (s : State) : KeepsBounds s (deliver d w s) := by
  cases d with
  | planLoader => exact receivePlanWord_keepsBounds w s
  | contextTable => exact receiveImageWord_keepsBounds w s
  | dropped => exact .refl s

theorem performFetch_keepsBounds (s : State) : KeepsBounds s (performFetch s) := by
  unfold performFetch
  split
  next a d q h => exact ((popEntry_keepsBounds h).trans (deliver_keepsBounds _ _ _)).trans (takeHeld_keepsBounds _ _)
  · exact .refl s
  · exact .refl s

/-! ## RESET -/

/-- Around a memory in canonical form the start values of the blocks are within the bounds. -/
theorem blank_bounded {m : List Host.Cell} (reads : List Reply) (pending : List Instr) (h : memWf m = true) :
    (State.blank m reads pending).Bounded :=
  ⟨h, Nat.zero_le _, Nat.zero_le _, Nat.zero_le _, List.length_replicate .., List.length_replicate ..⟩

theorem blank_noneOverwritten (m : List Host.Cell) (reads : List Reply) (pending : List Instr) :
    (State.blank m reads pending).NoneOverwritten := ⟨rfl, rfl, rfl, rfl⟩

theorem forwardHeld_keepsBounds (ts : List Txn) (s : State) : KeepsBounds s (ts.foldl forwardDirect s) := by
  induction ts generalizing s with
  | nil => exact .refl s
  | cons t ts ih => exact (forwardDirect_keepsBounds s t).trans (ih _)

theorem finishOnPort_keepsBounds (s : State) : KeepsBounds s (finishOnPort s) := by
  unfold finishOnPort
  split
  · exact .mem s _ memWf_writeWord
  · exact .refl s
  · exact .refl s

theorem assertReset_keepsBounds (b : Bool) (s : State) : KeepsBounds s (assertReset b s) := by
  have hport : KeepsBounds s (if b then finishOnPort s else s) := by
    split
    · exact finishOnPort_keepsBounds s
    · exact .refl s
  have hheld := hport.trans (forwardHeld_keepsBounds (if b then finishOnPort s else s).path.held _)
  exact ⟨fun h => blank_bounded _ _ (hheld.bounded h).memory, fun _ => blank_noneOverwritten _ _ _⟩

theorem releaseReset_keepsBounds (a1 a0 : Bool) (s : State) : KeepsBounds s (releaseReset a1 a0 s) := by
  refine KeepsBounds.trans ?_ ((beginLoad_keepsBounds _).trans (settle_keepsBounds _))
  refine ⟨fun h => ?_, fun _ => { blank_noneOverwritten s.mem s.path.reads s.pending with }⟩
  exact { blank_bounded s.path.reads s.pending h.memory with }

/-! ## Every command -/

theorem tickWindow_keepsBounds (s : State) : KeepsBounds s (tickWindow s) := by
  unfold tickWindow
  split
  · split
    · exact (KeepsBounds.tracker s _).trans (.asm _ _ (List.length_map ..))
    · exact .refl s
  · exact .refl s

theorem tickRetry_items (l : Loader) : (tickRetry l).items = l.items := by
  unfold tickRetry
  split <;> rfl

theorem effect_keepsBounds {c : Instr} {s t : State} (h : Effect s c t) : KeepsBounds s t := by
  cases h with
  | resetAsserted b => exact assertReset_keepsBounds b s
  | resetReleased a1 a0 => exact releaseReset_keepsBounds a1 a0 s
  | transaction c t => exact arrive_keepsBounds t s
  | windowLimitExpiry => exact (abandonWindow_keepsBounds _ s).trans (settle_keepsBounds _)
  | silenceExpiry w => exact (setAssembler_keepsBounds s _ _).trans (raiseCaptureFault_keepsBounds _ _ _)
  | frameTaken x => exact takeFrame_keepsBounds _ _ _ s
  | frameFinished => exact dropBusy_keepsBounds s
  | channelClose x => exact ((carryOut_keepsBounds s).trans (closeSteps_keepsBounds x _)).trans (settle_keepsBounds _)
  | channelCloseWithoutInput => exact carryOut_keepsBounds s
  | publishWaiting => exact (KeepsBounds.report s _).trans (.closing _ _)
  | publish => exact ((KeepsBounds.report s _).trans (finishClose_keepsBounds _)).trans (settle_keepsBounds _)
  | waitingWorkReleased =>
    exact ((releaseAtPublish_keepsBounds s).trans (finishClose_keepsBounds _)).trans (settle_keepsBounds _)
  | markPulseExpiry => exact .out s _
  | owner c f => exact (doWork_keepsBounds _ f s).trans (settle_keepsBounds _)
  | postPerformed => exact performPost_keepsBounds s
  | fetchPerformed => exact performFetch_keepsBounds s
  | queueRoomPlacement p hp => exact placeNext_keepsBounds hp
  | retryTimerExpiry => exact (beginLoad_keepsBounds s).trans (settle_keepsBounds _)
  | lineTick =>
    refine (tickWindow_keepsBounds s).trans ((KeepsBounds.out _ _).trans (.loader _ _ fun h => ?_))
    rw [tickRetry_items]
    exact h

/-- Settles O56: every effect keeps the bounds, and so does an idle step. -/
theorem stepKeepsBounds : Obligations.StepKeepsBounds := by
  intro s t h hb hn
  have hkeeps : KeepsBounds s t := by
    obtain rfl | ⟨c, cs, -, rfl | heffect⟩ := step_cases h
    · exact .refl t
    · exact .pending s cs
    · exact (KeepsBounds.pending s cs).trans (effect_keepsBounds heffect)
  exact ⟨hkeeps.bounded hb, hkeeps.stays hn⟩

end Sys2Proof.Machine
end

section
/-! PROOFS. The close of one cavity (chapters 4 and 5): the considered slots and their terms, the score, the state step, the
baselines, and that a cavity stays legal. -/

namespace Sys2Proof.Machine

/-! ## Considered slots and terms (R58 to R60, R63, R76, R77) -/

section
variable {rs : List ChanResult} {p : CavityPlan} {c : CavityCtx}

theorem lostBinding_of_unbound (h : c.bound = none) : lostBinding rs p c = none := by
  simp only [lostBinding, h]

theorem lostBinding_of_good {b : Fin 4} (h : c.bound = some b) (hg : isGood rs (p.chan b) = true) :
    lostBinding rs p c = none := by
  simp only [lostBinding, h, hg, if_true]

theorem lostBinding_of_not_good {b : Fin 4} (h : c.bound = some b) (hg : isGood rs (p.chan b) = false) :
    lostBinding rs p c = some b := by
  simp only [lostBinding, h, hg, Bool.false_eq_true, if_false]

theorem boundAfterLoss_of_kept (h : lostBinding rs p c = none) : boundAfterLoss rs p c = c.bound := by
  simp only [boundAfterLoss, h]

theorem boundAfterLoss_of_lost {b : Fin 4} (h : lostBinding rs p c = some b) : boundAfterLoss rs p c = none := by
  simp only [boundAfterLoss, h]

/-- A binding is lost, or kept as it is. -/
theorem boundAfterLoss_cases (rs : List ChanResult) (p : CavityPlan) (c : CavityCtx) :
    (boundAfterLoss rs p c = c.bound ∧ lostBinding rs p c = none) ∨
      (boundAfterLoss rs p c = none ∧ lostBinding rs p c = c.bound) := by
  cases hb : c.bound with
  | none =>
    have hl := lostBinding_of_unbound (rs := rs) (p := p) hb
    exact .inl ⟨(boundAfterLoss_of_kept hl).trans hb, hl⟩
  | some b =>
    cases hg : isGood rs (p.chan b) with
    | true =>
      have hl := lostBinding_of_good hb hg
      exact .inl ⟨(boundAfterLoss_of_kept hl).trans hb, hl⟩
    | false =>
      have hl := lostBinding_of_not_good hb hg
      exact .inr ⟨boundAfterLoss_of_lost hl, hl⟩

theorem considered_of_bound {b : Fin 4} (h : boundAfterLoss rs p c = some b) : considered rs p c = [b] := by
  simp only [considered, h]

theorem considered_of_unbound (h : boundAfterLoss rs p c = none) :
    considered rs p c = slots4.filter (usable rs p c none) := by
  simp only [considered, h]

theorem mem_slots4 (k : Fin 4) : k ∈ slots4 := by
  revert k
  decide

theorem isGood_iff (rs : List ChanResult) (n : Nat) : isGood rs n = true ↔ outcomeAt rs n = some .good := by
  simp only [isGood, beq_iff_eq]

/-- Without a binding that holds, the installed and enabled slots with a GOOD channel are considered (R58, R59). -/
theorem mem_considered_of_unbound (h : boundAfterLoss rs p c = none) (k : Fin 4) :
    k ∈ considered rs p c ↔
      p.has k = true ∧ outcomeAt rs (p.chan k) = some .good ∧ c.enables.getLsbD k.val = true := by
  rw [considered_of_unbound h, List.mem_filter, usable, ← isGood_iff]
  simp [mem_slots4, and_assoc]

end

theorem vibrates_iff_ne_ae (k : ChannelKind) : k.vibrates = true ↔ k ≠ .ae := by
  cases k <;> decide

section
variable {rs : List ChanResult} {p : CavityPlan} {c : CavityCtx} {k : Fin 4} {r : ChanResult}

theorem slotRatio_of_learned (h : resultOf rs (p.chan k) = some r) (hk : r.kind ≠ .ae) (hn : 1 ≤ (c.slot k).n) :
    slotRatio rs p c k = some (ratio r.rms (c.slot k).b) := by
  simp only [slotRatio, h, (vibrates_iff_ne_ae _).mpr hk, hn, decide_true, Bool.and_self, if_true]

theorem slotRatio_of_unlearned (h : resultOf rs (p.chan k) = some r) (hk : r.kind = .ae ∨ (c.slot k).n = 0) :
    slotRatio rs p c k = none := by
  have hno : (r.kind.vibrates && decide (1 ≤ (c.slot k).n)) = false := by
    rcases hk with hk | hn
    · rw [hk]; rfl
    · rw [hn]; exact Bool.and_false _
  simp only [slotRatio, h, hno, Bool.false_eq_true, if_false]

theorem emissionTerm_of_vib (h : resultOf rs (p.chan k) = some r) (hk : r.kind = .vib) (weight : Nat) :
    emissionTerm rs weight (p.chan k) = 0 := by
  simp only [emissionTerm, h, hk]
  rfl

theorem emissionTerm_of_emits (h : resultOf rs (p.chan k) = some r) (hk : r.kind ≠ .vib) (weight : Nat) :
    emissionTerm rs weight (p.chan k) = min 255 (r.acc.qualified * weight) := by
  simp only [emissionTerm, h, (emits_iff_ne_vib _).mpr hk, if_true]

end

/-- Settles O22: the binding decides what is considered, and the kind of a slot's channel decides its terms. -/
theorem slotTerms : Obligations.SlotTerms := by
  refine ⟨fun rs p c => ⟨fun b hb hg => ?_, fun b hb hg => ?_, fun hb => ?_, fun hb k => ?_, considered_pairwise rs p c⟩,
    fun rs q m p c k r h => ⟨rfl, rfl, fun hk hn => ?_, fun hk => ?_, fun hk => emissionTerm_of_vib h hk _,
      fun hk => emissionTerm_of_emits h hk _⟩⟩
  · have hl := lostBinding_of_good hb hg
    have hbound := (boundAfterLoss_of_kept hl).trans hb
    exact ⟨considered_of_bound hbound, hl, hbound⟩
  · have hl := lostBinding_of_not_good hb hg
    exact ⟨hl, boundAfterLoss_of_lost hl⟩
  · have hl := lostBinding_of_unbound (rs := rs) (p := p) hb
    exact ⟨hl, (boundAfterLoss_of_kept hl).trans hb⟩
  · refine mem_considered_of_unbound ?_ k
    rcases hb with hb | ⟨b, hb, hg⟩
    · exact (boundAfterLoss_of_kept (lostBinding_of_unbound hb)).trans hb
    · exact boundAfterLoss_of_lost (lostBinding_of_not_good hb hg)
  · have hr := slotRatio_of_learned (c := c) h hk hn
    refine ⟨hr, ?_⟩
    simp only [slotWork, hr, vibrationTerm, ratio]
    omega
  · have hr := slotRatio_of_unlearned (c := c) h hk
    exact ⟨hr, by simp only [slotWork, hr, vibrationTerm]⟩

/-! ## The score (R81) -/

/-- The quotient by `D` tells on which side of the band from `D * e` to `D * e + D - 1` a score lies. -/
theorem div_lt_of_below {D e x : Nat} (h : x < D * e) : x / D < e := Nat.div_lt_of_lt_mul h

theorem lt_div_of_above {D e x : Nat} (hD : 0 < D) (h : D * e + D - 1 < x) : e < x / D := by
  rw [Nat.lt_iff_add_one_le, Nat.le_div_iff_mul_le hD, Nat.add_mul, Nat.mul_comm e D]
  omega

section
variable {d e x : Nat}

theorem newScore_in_band (hx : x ≤ 65535) (hlo : 2 ^ d * e ≤ x) (hhi : x ≤ 2 ^ d * e + 2 ^ d - 1) :
    newScore d x e = x := by
  have hpos : 0 < 2 ^ d := Nat.two_pow_pos d
  have hq : x / 2 ^ d = e := by
    rw [Nat.div_eq_iff hpos, Nat.mul_comm]
    omega
  have hle : x / 2 ^ d ≤ x := Nat.div_le_self ..
  rw [newScore, hq]
  omega

/-- A score below the band rises, and not past its lower end. -/
theorem newScore_below (hmax : 2 ^ d * e ≤ 65535) (h : x < 2 ^ d * e) :
    x < newScore d x e ∧ newScore d x e ≤ 2 ^ d * e := by
  have hlt := div_lt_of_below h
  obtain ⟨k, hk⟩ : ∃ k, e = x / 2 ^ d + 1 + k := ⟨e - (x / 2 ^ d + 1), by omega⟩
  have hmod := Nat.div_add_mod x (2 ^ d)
  have hrest := Nat.mod_lt x (Nat.two_pow_pos d)
  have hk' : k ≤ 2 ^ d * k := Nat.le_mul_of_pos_left k (Nat.two_pow_pos d)
  have he : 2 ^ d * e = 2 ^ d * (x / 2 ^ d) + 2 ^ d + 2 ^ d * k := by
    conv_lhs => rw [hk]
    ring
  have hle : x / 2 ^ d ≤ x := Nat.div_le_self ..
  rw [newScore]
  omega

/-- A score above the band falls, and not past its lower end. -/
theorem newScore_above (hmax : 2 ^ d * e ≤ 65535) (h : 2 ^ d * e + 2 ^ d - 1 < x) :
    newScore d x e < x ∧ 2 ^ d * e ≤ newScore d x e := by
  have hlt := lt_div_of_above (Nat.two_pow_pos d) h
  obtain ⟨k, hk⟩ : ∃ k, x / 2 ^ d = e + 1 + k := ⟨x / 2 ^ d - (e + 1), by omega⟩
  have hmod := Nat.div_add_mod x (2 ^ d)
  have hk' : k ≤ 2 ^ d * k := Nat.le_mul_of_pos_left k (Nat.two_pow_pos d)
  have hpos := Nat.two_pow_pos d
  have he : 2 ^ d * (x / 2 ^ d) = 2 ^ d * e + 2 ^ d + 2 ^ d * k := by
    rw [hk]
    ring
  have hle : x / 2 ^ d ≤ x := Nat.div_le_self ..
  rw [newScore]
  omega

/-- From any score the band is reached: outside it the distance to its lower end falls with every step. -/
theorem newScore_reaches_band (hmax : 2 ^ d * e ≤ 65535) (x : Nat) :
    ∃ k, 2 ^ d * e ≤ (fun x => newScore d x e)^[k] x ∧ (fun x => newScore d x e)^[k] x ≤ 2 ^ d * e + 2 ^ d - 1 := by
  induction hdist : (2 ^ d * e - x) + (x - 2 ^ d * e) using Nat.strong_induction_on generalizing x with
  | _ n ih =>
    by_cases hband : 2 ^ d * e ≤ x ∧ x ≤ 2 ^ d * e + 2 ^ d - 1
    · exact ⟨0, hband⟩
    · have hcloser : (2 ^ d * e - newScore d x e) + (newScore d x e - 2 ^ d * e) < n := by
        rcases Nat.lt_or_ge x (2 ^ d * e) with hlt | hge
        · have := newScore_below hmax hlt
          omega
        · have := newScore_above (x := x) hmax (by omega)
          omega
      obtain ⟨k, hk⟩ := ih _ hcloser (newScore d x e) rfl
      exact ⟨k + 1, hk⟩

end

/-- Settles O26: the quotient of the score by 2^d is compared with the evidence. -/
theorem scoreBand : Obligations.ScoreBand := by
  intro d e score _ hd8 he hscore
  have hpow : 2 ^ d ≤ 2 ^ 8 := Nat.pow_le_pow_right (by decide) hd8
  have hmax : 2 ^ d * e ≤ 65535 := (Nat.mul_le_mul hpow he).trans (by decide)
  exact ⟨rfl, newScore_in_band hscore, newScore_below hmax, newScore_above hmax, newScore_reaches_band hmax score⟩

/-! ## The baselines (R90) -/

theorem updateBaseline_n (w rms : Nat) (x : SlotCtx) : (updateBaseline w rms x).n = min (x.n + 1) (2 ^ w) := rfl

theorem updateBaseline_n_pos (w rms : Nat) (x : SlotCtx) : 1 ≤ (updateBaseline w rms x).n :=
  Nat.le_min.mpr ⟨Nat.le_add_left .., Nat.two_pow_pos w⟩

/-- A step of a whole part of the way stays between its two ends. -/
theorem step_between {b t : Int} {n : Nat} (hn : 1 ≤ n) : min b t ≤ b + (t - b) / n ∧ b + (t - b) / n ≤ max b t := by
  have hpos : (0 : Int) < n := by exact_mod_cast hn
  have hn' : (1 : Int) ≤ n := by exact_mod_cast hn
  rcases le_total b t with h | h
  · have hnonneg : 0 ≤ (t - b) / (n : Int) := Int.ediv_nonneg (by omega) hpos.le
    have hle : (t - b) / (n : Int) ≤ t - b := Int.ediv_le_self _ (by omega)
    omega
  · have hle : (t - b) / (n : Int) ≤ 0 := Int.ediv_nonpos_of_nonpos_of_neg (by omega) hpos
    have hge : t - b ≤ (t - b) / (n : Int) := by
      rw [Int.le_ediv_iff_mul_le hpos]
      nlinarith
    omega

/-- The clamp of the new baseline never acts for an RMS and a baseline in range. -/
theorem updateBaseline_b {w rms : Nat} {x : SlotCtx} (hr : rms ≤ 32767) (hb : x.b ≤ 524288) :
    ((updateBaseline w rms x).b : Int) = x.b + ((16 * rms : Int) - x.b) / (updateBaseline w rms x).n := by
  obtain ⟨hlo, hhi⟩ := step_between (b := x.b) (t := 16 * rms) (updateBaseline_n_pos w rms x)
  have hdiv : ((16 * rms : Nat) - (x.b : Int)).fdiv ((updateBaseline w rms x).n : Int)
      = ((16 * rms : Int) - x.b) / (updateBaseline w rms x).n := by
    rw [Int.fdiv_eq_ediv_of_nonneg _ (Int.natCast_nonneg _)]
    push_cast
    rfl
  have hval : (updateBaseline w rms x).b
      = (clampInt 0 524288 (x.b + ((16 * rms : Int) - x.b) / (updateBaseline w rms x).n)).toNat := by
    rw [← hdiv]
    rfl
  rw [hval, clampInt, if_neg (by omega), if_neg (by omega)]
  omega

theorem updateBaseline_b_le (w rms : Nat) (x : SlotCtx) : (updateBaseline w rms x).b ≤ 524288 := by
  have hclamp : ∀ y : Int, (clampInt 0 524288 y).toNat ≤ 524288 := by
    intro y
    unfold clampInt
    split
    · decide
    · split <;> omega
  exact hclamp _

/-- Settles O28: the step of R90 stays between the old baseline and 16 times the RMS, so that no clamp acts. -/
theorem baselineUpdate : Obligations.BaselineUpdate := by
  intro w rms x _ _ hr hb
  have hval := updateBaseline_b (w := w) hr hb
  obtain ⟨hlo, hhi⟩ := step_between (b := x.b) (t := 16 * rms) (updateBaseline_n_pos w rms x)
  refine ⟨rfl, hval, by omega, by omega, fun hn => ?_⟩
  have hone : (updateBaseline w rms x).n = 1 := by
    rw [updateBaseline_n, hn]
    exact Nat.min_eq_left (Nat.two_pow_pos w)
  rw [hone] at hval
  exact ⟨hone, by omega⟩

/-! ## The state step (R82 to R87) -/

theorem enterSuspect_eq {q : ProfilePlan} {k : Fin 4} {c : CavityCtx} (h : 1 ≤ q.confirmations) :
    enterSuspect q k c = { c with
      bound := some k, confirm := if q.t3 ≤ c.score then 1 else 0
      state := if q.t3 ≤ c.score ∧ q.confirmations = 1 then .cracked else .suspect } := by
  unfold enterSuspect
  by_cases h3 : q.t3 ≤ c.score
  · have hone : q.confirmations ≤ 1 ↔ q.confirmations = 1 := by omega
    simp only [h3, if_true, hone, true_and]
  · simp only [h3, if_false, show ¬ q.confirmations ≤ 0 by omega, false_and]

/-- Settles O27: one clause for each branch of the state step and of the learning step. -/
theorem stateSteps : Obligations.StateSteps := by
  intro q k c h1 h2 h3 hK
  have hentry := enterSuspect_eq (k := k) (c := c) hK
  refine ⟨fun hs a => ?_, fun hs a b => ?_, fun hs a => ?_, fun hs a => ?_, fun hs a b => ?_, fun hs a => ?_, fun hs a => ?_,
    fun hs a b => ?_, fun hs a b => ?_, fun hs a => ?_, fun hs => ?_, fun a => if_pos a, fun a => if_neg (Nat.not_le.mpr a)⟩
  · simp only [stateStep, hs, if_pos a]
    exact hentry
  · simp only [stateStep, hs, if_neg (Nat.not_le.mpr b), if_pos a]
  · simp only [stateStep, hs, if_neg (show ¬ q.t2 ≤ c.score by omega), if_neg (Nat.not_le.mpr a)]
  · simp only [stateStep, hs, if_pos a]
    exact hentry
  · simp only [stateStep, hs, if_neg (Nat.not_le.mpr b), if_pos a]
  · simp only [stateStep, hs, if_neg (show ¬ q.t2 ≤ c.score by omega), if_neg (Nat.not_le.mpr a)]
  · simp only [stateStep, hs, suspectStep, if_pos a, satAdd]
    rfl
  · simp only [stateStep, hs, suspectStep, if_neg (Nat.not_le.mpr b), if_pos a]
  · simp only [stateStep, hs, suspectStep, if_neg (show ¬ q.t3 ≤ c.score by omega), if_neg (Nat.not_le.mpr b), if_pos a]
  · simp only [stateStep, hs, suspectStep, if_neg (show ¬ q.t3 ≤ c.score by omega),
      if_neg (show ¬ q.t2 - q.h ≤ c.score by omega), if_neg (Nat.not_le.mpr a)]
  · simp only [stateStep, hs]

end Sys2Proof.Machine
end

section
/-! PROOFS. The close of a whole cavity (R75, R79, R90, R91), and that it leaves every cavity legal (R61, R97). -/

namespace Sys2Proof.Machine

/-! ## What the two steps change -/

/-- Blind flag, reported slot, enables and slots: what neither the learning step nor the state step touches. -/
structure SameSight (c d : CavityCtx) : Prop where
  blind : d.blind = c.blind
  reported : d.reported = c.reported
  enables : d.enables = c.enables
  slots : d.slots = c.slots

theorem learnStep_sight (q : ProfilePlan) (c : CavityCtx) : SameSight c (learnStep q c) := by
  unfold learnStep
  dsimp only
  split <;> exact ⟨rfl, rfl, rfl, rfl⟩

theorem learnStep_score {q : ProfilePlan} {c : CavityCtx} (h : c.score = 0) : (learnStep q c).score = 0 := by
  unfold learnStep
  dsimp only
  split
  · rfl
  · exact h

theorem learnStep_state (q : ProfilePlan) (c : CavityCtx) :
    (learnStep q c).state = .sound ∨ (learnStep q c).state = c.state := by
  unfold learnStep
  dsimp only
  split
  · exact .inl rfl
  · exact .inr rfl

/-- The state step sets state, bound slot and confirm count, and nothing else. -/
theorem stateStep_changes (q : ProfilePlan) (k : Fin 4) (c : CavityCtx) :
    ∃ st b n, stateStep q k c = { c with state := st, bound := b, confirm := n } := by
  unfold stateStep suspectStep enterSuspect
  dsimp only
  split
  all_goals repeat' split
  all_goals exact ⟨_, _, _, rfl⟩

theorem stateStep_sight (q : ProfilePlan) (k : Fin 4) (c : CavityCtx) : SameSight c (stateStep q k c) := by
  obtain ⟨st, b, n, h⟩ := stateStep_changes q k c
  rw [h]
  exact ⟨rfl, rfl, rfl, rfl⟩

theorem stateStep_score (q : ProfilePlan) (k : Fin 4) (c : CavityCtx) : (stateStep q k c).score = c.score := by
  obtain ⟨st, b, n, h⟩ := stateStep_changes q k c
  rw [h]

theorem stateStep_cracked {q : ProfilePlan} {k : Fin 4} {c : CavityCtx} (h : c.state = .cracked) :
    stateStep q k c = c := by
  simp only [stateStep, h]

/-! ## The baseline updates of a cavity -/

section
variable {rs : List ChanResult} {w : Nat} {p : CavityPlan} {c : CavityCtx} {k : Fin 4}

/-- Slot `k` takes its baseline update when its channel has a result with a level. -/
theorem updateSlot_of_vibrates {r : ChanResult} (h : resultOf rs (p.chan k) = some r) (hk : r.kind ≠ .ae) :
    updateSlot rs w p c k = { c with slots := c.slots.set k.val (updateBaseline w r.rms (c.slot k)) } := by
  simp only [updateSlot, h, (vibrates_iff_ne_ae _).mpr hk, if_true]

theorem updateSlot_of_not_vibrates (h : ∀ r, resultOf rs (p.chan k) = some r → r.kind = .ae) :
    updateSlot rs w p c k = c := by
  cases hr : resultOf rs (p.chan k) with
  | none => simp only [updateSlot, hr]
  | some r =>
    have hv : r.kind.vibrates = false := by
      rw [h r hr]
      rfl
    simp only [updateSlot, hr, hv, Bool.false_eq_true, if_false]

/-- A slot takes its update, or the cavity stays as it is. -/
theorem updateSlot_cases (rs : List ChanResult) (w : Nat) (p : CavityPlan) (c : CavityCtx) (k : Fin 4) :
    updateSlot rs w p c k = c ∨
      ∃ r, updateSlot rs w p c k = { c with slots := c.slots.set k.val (updateBaseline w r (c.slot k)) } := by
  by_cases h : ∀ r, resultOf rs (p.chan k) = some r → r.kind = .ae
  · exact .inl (updateSlot_of_not_vibrates h)
  · push Not at h
    obtain ⟨r, hr, hk⟩ := h
    exact .inr ⟨_, updateSlot_of_vibrates hr hk⟩

theorem updateSlot_changes (rs : List ChanResult) (w : Nat) (p : CavityPlan) (c : CavityCtx) (k : Fin 4) :
    updateSlot rs w p c k = { c with slots := (updateSlot rs w p c k).slots } ∧
      (updateSlot rs w p c k).slots.length = c.slots.length := by
  rcases updateSlot_cases rs w p c k with h | ⟨r, h⟩ <;> rw [h]
  · exact ⟨rfl, rfl⟩
  · exact ⟨rfl, List.length_set⟩

theorem updateSlots_changes (rs : List ChanResult) (w : Nat) (p : CavityPlan) (ks : List (Fin 4)) (c : CavityCtx) :
    ks.foldl (updateSlot rs w p) c = { c with slots := (ks.foldl (updateSlot rs w p) c).slots } ∧
      (ks.foldl (updateSlot rs w p) c).slots.length = c.slots.length := by
  induction ks generalizing c with
  | nil => exact ⟨rfl, rfl⟩
  | cons k ks ih =>
    obtain ⟨hone, hlen⟩ := updateSlot_changes rs w p c k
    obtain ⟨hrest, hlens⟩ := ih (updateSlot rs w p c k)
    refine ⟨hrest.trans ?_, hlens.trans hlen⟩
    rw [List.foldl_cons, hone]

theorem updateSlot_slot_of_ne {j : Fin 4} (h : j ≠ k) : (updateSlot rs w p c k).slot j = c.slot j := by
  have hval : k.val ≠ j.val := fun he => h (Fin.ext he.symm)
  rcases updateSlot_cases rs w p c k with he | ⟨r, he⟩ <;> rw [he]
  simp only [CavityCtx.slot, List.getD_eq_getElem?_getD, List.getElem?_set_ne hval]

theorem updateSlots_slot_of_not_mem {ks : List (Fin 4)} (h : k ∉ ks) :
    (ks.foldl (updateSlot rs w p) c).slot k = c.slot k := by
  induction ks generalizing c with
  | nil => rfl
  | cons j ks ih =>
    rw [List.mem_cons, not_or] at h
    exact (ih h.2).trans (updateSlot_slot_of_ne h.1)

theorem updateSlots_slot_of_ae {ks : List (Fin 4)} (h : ∀ r, resultOf rs (p.chan k) = some r → r.kind = .ae) :
    (ks.foldl (updateSlot rs w p) c).slot k = c.slot k := by
  induction ks generalizing c with
  | nil => rfl
  | cons j ks ih =>
    refine ih.trans ?_
    by_cases hj : k = j
    · rw [← hj, updateSlot_of_not_vibrates h]
    · exact updateSlot_slot_of_ne hj

/-- With each considered slot listed once, a slot of it takes exactly one update. -/
theorem updateSlots_slot_of_mem {ks : List (Fin 4)} {r : ChanResult} (hks : ks.Nodup) (hmem : k ∈ ks)
    (hlen : c.slots.length = 4) (h : resultOf rs (p.chan k) = some r) (hk : r.kind ≠ .ae) :
    (ks.foldl (updateSlot rs w p) c).slot k = updateBaseline w r.rms (c.slot k) := by
  induction ks generalizing c with
  | nil => cases hmem
  | cons j ks ih =>
    obtain ⟨hj, hrest⟩ := List.nodup_cons.mp hks
    rw [List.foldl_cons]
    by_cases heq : k = j
    · rw [← heq] at hj ⊢
      rw [updateSlots_slot_of_not_mem hj, updateSlot_of_vibrates h hk]
      simp only [CavityCtx.slot, List.getD_eq_getElem?_getD, List.getElem?_set_self (show k.val < c.slots.length by omega),
        Option.getD_some]
    · rw [ih hrest ((List.mem_cons.mp hmem).resolve_left heq) (by rw [(updateSlot_changes ..).2, hlen]),
        updateSlot_slot_of_ne heq]

end

/-! ## A cavity that is seen (R75) -/

section
variable (rs : List ChanResult) (q : ProfilePlan) (p : CavityPlan) (c : CavityCtx) (x : SlotWork)

/-- The cavity with what it reports, before score and state (R60, R69). -/
def seenCavity : CavityCtx := { c with bound := boundAfterLoss rs p c, blind := false, reported := some x.slot }

/-- The cavity after its learning step or its state step, before the baseline updates (R75). -/
def movedCavity : CavityCtx :=
  if c.state = .learning then learnStep q (seenCavity rs p c x)
  else stateStep q x.slot { seenCavity rs p c x with score := newScore q.d c.score (evidenceOf x) }

theorem closeSeen_eq :
    closeSeen rs q p c x =
      if (movedCavity rs q p c x).state.learns then
        (considered rs p c).foldl (updateSlot rs q.w p) (movedCavity rs q p c x)
      else movedCavity rs q p c x := rfl

theorem movedCavity_sight : SameSight (seenCavity rs p c x) (movedCavity rs q p c x) := by
  unfold movedCavity
  split
  · exact learnStep_sight q _
  · obtain ⟨hb, hr, he, hs⟩ := stateStep_sight q x.slot
      { seenCavity rs p c x with score := newScore q.d c.score (evidenceOf x) }
    exact ⟨hb, hr, he, hs⟩

theorem closeSeen_changes :
    closeSeen rs q p c x = { movedCavity rs q p c x with slots := (closeSeen rs q p c x).slots } ∧
      (closeSeen rs q p c x).slots.length = c.slots.length := by
  have hslots : (movedCavity rs q p c x).slots = c.slots := (movedCavity_sight rs q p c x).slots
  rw [closeSeen_eq]
  split
  · obtain ⟨heq, hlen⟩ := updateSlots_changes rs q.w p (considered rs p c) (movedCavity rs q p c x)
    exact ⟨heq, hlen.trans (congrArg List.length hslots)⟩
  · exact ⟨rfl, congrArg List.length hslots⟩

end

theorem learns_iff (st : CavState) : st.learns = true ↔ st = .learning ∨ st = .sound := by
  cases st <;> decide

theorem considered_nodup (rs : List ChanResult) (p : CavityPlan) (c : CavityCtx) : (considered rs p c).Nodup :=
  (considered_pairwise rs p c).imp ne_of_lt

section
variable {rs : List ChanResult} {q : ProfilePlan} {p : CavityPlan} {c : CavityCtx} {x : SlotWork} {k : Fin 4}

theorem closeSeen_slot_of_updated {r : ChanResult} (hlen : c.slots.length = 4)
    (hst : (movedCavity rs q p c x).state = .learning ∨ (movedCavity rs q p c x).state = .sound)
    (hk : k ∈ considered rs p c) (hr : resultOf rs (p.chan k) = some r) (hkind : r.kind ≠ .ae) :
    (closeSeen rs q p c x).slot k = updateBaseline q.w r.rms (c.slot k) := by
  have hslots : (movedCavity rs q p c x).slots = c.slots := (movedCavity_sight rs q p c x).slots
  rw [closeSeen_eq, if_pos ((learns_iff _).mpr hst),
    updateSlots_slot_of_mem (considered_nodup rs p c) hk (by rw [hslots, hlen]) hr hkind, CavityCtx.slot, hslots]
  rfl

theorem closeSeen_slot_of_held
    (h : ((movedCavity rs q p c x).state ≠ .learning ∧ (movedCavity rs q p c x).state ≠ .sound) ∨ k ∉ considered rs p c ∨
      ∀ r, resultOf rs (p.chan k) = some r → r.kind = .ae) :
    (closeSeen rs q p c x).slot k = c.slot k := by
  have hslot : (movedCavity rs q p c x).slot k = c.slot k := by
    rw [CavityCtx.slot, (movedCavity_sight rs q p c x).slots]
    rfl
  rw [closeSeen_eq]
  by_cases hl : (movedCavity rs q p c x).state.learns = true
  · rw [if_pos hl]
    rcases h with ⟨hnl, hns⟩ | hmem | hae
    · exact absurd ((learns_iff _).mp hl) (not_or.mpr ⟨hnl, hns⟩)
    · exact (updateSlots_slot_of_not_mem hmem).trans hslot
    · exact (updateSlots_slot_of_ae hae).trans hslot
  · rw [if_neg hl, hslot]

end

/-! ## The close of one cavity -/

section
variable {rs : List ChanResult} {q : ProfilePlan} {median : Nat → Nat} {i : Nat} {p : CavityPlan} {c : CavityCtx}

theorem boundAfterLoss_of_none_considered (h : considered rs p c = []) : boundAfterLoss rs p c = none := by
  cases hb : boundAfterLoss rs p c with
  | none => rfl
  | some b =>
    rw [considered_of_bound hb] at h
    cases h

theorem closeCavity_of_blind (h : considered rs p c = []) :
    closeCavity rs q median i p c =
      { number := i, plan := p, before := c, after := closeBlind rs p c, lost := lostBinding rs p c, slots := [],
        evidence := 0, v := 0, a := 0, q := none, median := median p.group } := by
  simp only [closeCavity, h, List.map_nil, dominant]

theorem closeCavity_of_seen {x : SlotWork}
    (h : dominant ((considered rs p c).map (slotWork rs q (median p.group) p c)) = some x) :
    closeCavity rs q median i p c =
      { number := i, plan := p, before := c, after := closeSeen rs q p c x, lost := lostBinding rs p c
        slots := (considered rs p c).map (slotWork rs q (median p.group) p c), evidence := evidenceOf x, v := x.v, a := x.a
        q := cavityQ rs p c, median := median p.group } := by
  simp only [closeCavity, h]

end

/-- Settles O25: without a considered slot the blind hold, and with a dominant slot the steps of R75 in order. -/
theorem cavityJudged : Obligations.CavityJudged := by
  refine ⟨fun rs q median i p c h => ?_, fun rs q median i p c x _ h => ?_⟩
  · have hbound := boundAfterLoss_of_none_considered h
    have hlost : lostBinding rs p c = c.bound := by
      rcases boundAfterLoss_cases rs p c with ⟨hb, hl⟩ | ⟨_, hl⟩
      · rw [hl, ← hb, hbound]
      · exact hl
    have hafter : closeBlind rs p c = { c with blind := true, bound := none } := by
      rw [closeBlind, hbound]
    rw [closeCavity_of_blind h]
    exact ⟨hafter, hlost, rfl, rfl, rfl, rfl, rfl, rfl, rfl, rfl, rfl⟩
  · obtain ⟨heq, hlen⟩ := closeSeen_changes rs q p c x
    obtain ⟨hblind, hreported, henables, _⟩ := movedCavity_sight rs q p c x
    rw [closeCavity_of_seen h]
    refine ⟨⟨?_, ?_, rfl, rfl, rfl, ?_, rfl, rfl, rfl, rfl, rfl, rfl, rfl⟩, fun hl hs => ?_, fun hl => ?_, heq, hlen,
      fun hfour => ⟨fun k r hst hk hr hkind => closeSeen_slot_of_updated hfour hst hk hr hkind,
        fun k hk => closeSeen_slot_of_held hk⟩⟩
    · exact (congrArg CavityCtx.reported heq).trans hreported
    · exact (congrArg CavityCtx.blind heq).trans hblind
    · exact (congrArg CavityCtx.enables heq).trans henables
    · refine (congrArg CavityCtx.score heq).trans ?_
      rw [movedCavity, if_pos hl]
      exact learnStep_score hs
    · refine (congrArg CavityCtx.score heq).trans ?_
      rw [movedCavity, if_neg hl]
      exact stateStep_score ..

/-! ## A legal cavity stays legal (R61, R97) -/

theorem updateBaseline_bounds {w rms : Nat} {x : SlotCtx} (hw : w ≤ 8) :
    (updateBaseline w rms x).b ≤ 524288 ∧ (updateBaseline w rms x).n ≤ 256 := by
  have hpow : 2 ^ w ≤ 2 ^ 8 := Nat.pow_le_pow_right (by decide) hw
  refine ⟨updateBaseline_b_le w rms x, ?_⟩
  rw [updateBaseline_n]
  omega

section
variable {rs : List ChanResult} {q : ProfilePlan} {p : CavityPlan} {c : CavityCtx}

theorem CavityCtx.Legal.unbound (h : c.Legal p) (hs : c.state ≠ .suspect) (hc : c.state ≠ .cracked) : c.bound = none := by
  cases hb : c.bound with
  | none => rfl
  | some k => exact absurd (h.bound k hb).2 (not_or.mpr ⟨hs, hc⟩)

theorem CavityCtx.Legal.unconfirmed (h : c.Legal p) (hs : c.state ≠ .suspect) (hc : c.state ≠ .cracked) : c.confirm = 0 := by
  by_contra hn
  exact (h.confirm hn).elim hs hc

theorem CavityCtx.Legal.withBound {b : Option (Fin 4)} (h : c.Legal p) (hb : b = c.bound ∨ b = none) :
    { c with bound := b }.Legal p where
  bound k hk := by
    rcases hb with rfl | rfl
    · exact h.bound k hk
    · cases hk
  reported := h.reported
  unscored := h.unscored
  confirm := h.confirm
  seen := h.seen
  score := h.score
  count := h.count
  learned := h.learned
  slots := h.slots
  baselines := h.baselines

/-- A state without binding and confirm count may be entered with none of either; LEARNING and EXCLUDED have conditions of
their own. -/
theorem CavityCtx.Legal.released {st : CavState} (h : c.Legal p) (hl : st ≠ .learning) (hx : st ≠ .excluded) :
    { c with state := st, bound := none, confirm := 0 }.Legal p where
  bound k hk := by cases hk
  reported := h.reported
  unscored hs := (hs.elim hl hx).elim
  confirm hn := absurd rfl hn
  seen hs := absurd hs hx
  score := h.score
  count := Nat.zero_le _
  learned := h.learned
  slots := h.slots
  baselines := h.baselines

/-- SUSPECT and CRACKED may hold any installed binding and any confirm count up to 7. -/
theorem CavityCtx.Legal.suspected {st : CavState} {b : Option (Fin 4)} {n : Nat} (h : c.Legal p)
    (hst : st = .suspect ∨ st = .cracked) (hb : ∀ k, b = some k → p.has k = true) (hn : n ≤ 7) :
    { c with state := st, bound := b, confirm := n }.Legal p where
  bound k hk := ⟨hb k hk, hst⟩
  reported := h.reported
  unscored hs := by rcases hst with rfl | rfl <;> rcases hs with hs | hs <;> cases hs
  confirm _ := hst
  seen hs := by rcases hst with rfl | rfl <;> cases hs
  score := h.score
  count := hn
  learned := h.learned
  slots := h.slots
  baselines := h.baselines

theorem learnStep_legal (h : c.Legal p) (hl : c.state = .learning) : (learnStep q c).Legal p := by
  have hscore : c.score = 0 := h.unscored (.inl hl)
  have hlearned : { c with learned := satAdd 256 c.learned 1 }.Legal p :=
    ⟨h.bound, h.reported, h.unscored, h.confirm, h.seen, h.score, h.count, Nat.min_le_left .., h.slots, h.baselines⟩
  unfold learnStep
  dsimp only
  split
  · have := hlearned.released (st := .sound) (by decide) (by decide)
    rwa [hscore] at this
  · have hb : c.bound = none := h.unbound (by rw [hl]; decide) (by rw [hl]; decide)
    have hn : c.confirm = 0 := h.unconfirmed (by rw [hl]; decide) (by rw [hl]; decide)
    rwa [hb, hn] at hlearned

theorem enterSuspect_legal {k : Fin 4} (h : c.Legal p) (hk : p.has k = true) : (enterSuspect q k c).Legal p := by
  unfold enterSuspect
  refine h.suspected (ite_eq_or_eq _ _ _).symm (fun j hj => ?_) (by split <;> omega)
  cases hj
  exact hk

theorem suspectStep_legal (h : c.Legal p) (hs : c.state = .suspect) : (suspectStep q c).Legal p := by
  have hb : ∀ k, c.bound = some k → p.has k = true := fun k hk => (h.bound k hk).1
  unfold suspectStep
  dsimp only
  split
  · exact h.suspected (ite_eq_or_eq _ _ _).symm hb (Nat.min_le_left ..)
  · split
    · exact h.suspected (.inl hs) hb (Nat.zero_le _)
    · split <;> exact h.released (by decide) (by decide)

theorem stateStep_legal {k : Fin 4} (h : c.Legal p) (hk : p.has k = true) : (stateStep q k c).Legal p := by
  have settled : ∀ st : CavState, c.state ≠ .suspect → c.state ≠ .cracked → st ≠ .learning → st ≠ .excluded →
      { c with state := st, confirm := 0 }.Legal p := fun st hs hc hl hx => by
    have := h.released hl hx
    rwa [← h.unbound hs hc] at this
  cases hs : c.state with
  | sound =>
    have hw := settled .watch (by rw [hs]; decide) (by rw [hs]; decide) (by decide) (by decide)
    simp only [stateStep, hs]
    split
    · exact enterSuspect_legal h hk
    · split
      · exact hw
      · exact h
  | watch =>
    have hn : c.confirm = 0 := h.unconfirmed (by rw [hs]; decide) (by rw [hs]; decide)
    have hw := settled .sound (by rw [hs]; decide) (by rw [hs]; decide) (by decide) (by decide)
    simp only [stateStep, hs]
    split
    · exact enterSuspect_legal h hk
    · split
      · exact h
      · rwa [← hn] at hw
  | suspect =>
    simp only [stateStep, hs]
    exact suspectStep_legal h hs
  | cracked => simpa only [stateStep, hs] using h
  | learning => simpa only [stateStep, hs] using h
  | excluded => simpa only [stateStep, hs] using h

theorem updateSlot_legal {w : Nat} {k : Fin 4} (hw : w ≤ 8) (h : c.Legal p) : (updateSlot rs w p c k).Legal p := by
  rcases updateSlot_cases rs w p c k with he | ⟨r, he⟩ <;> rw [he]
  · exact h
  · refine ⟨h.bound, h.reported, h.unscored, h.confirm, h.seen, h.score, h.count, h.learned,
      List.length_set.trans h.slots, fun y hy => ?_⟩
    rcases List.mem_or_eq_of_mem_set hy with hy | rfl
    · exact h.baselines y hy
    · exact updateBaseline_bounds hw

theorem updateSlots_legal {w : Nat} {ks : List (Fin 4)} (hw : w ≤ 8) (h : c.Legal p) :
    (ks.foldl (updateSlot rs w p) c).Legal p := by
  induction ks generalizing c with
  | nil => exact h
  | cons k ks ih => exact ih (updateSlot_legal hw h)

theorem closeBlind_legal (h : c.Legal p) (hx : c.state ≠ .excluded) : (closeBlind rs p c).Legal p := by
  have hb := h.withBound ((boundAfterLoss_cases rs p c).imp And.left And.left)
  exact ⟨hb.bound, hb.reported, hb.unscored, hb.confirm, fun hs => absurd hs hx, hb.score, hb.count, hb.learned, hb.slots,
    hb.baselines⟩

theorem seenCavity_legal {x : SlotWork} (h : c.Legal p) (hx : p.has x.slot = true) : (seenCavity rs p c x).Legal p := by
  have hb := h.withBound ((boundAfterLoss_cases rs p c).imp And.left And.left)
  refine ⟨hb.bound, fun k hk => ?_, hb.unscored, hb.confirm, fun _ => rfl, hb.score, hb.count, hb.learned, hb.slots,
    hb.baselines⟩
  cases hk
  exact hx

theorem movedCavity_legal {x : SlotWork} (h : c.Legal p) (hx : p.has x.slot = true) (he : c.state ≠ .excluded) :
    (movedCavity rs q p c x).Legal p := by
  have hs := seenCavity_legal (rs := rs) h hx
  unfold movedCavity
  split
  · next hl => exact learnStep_legal hs hl
  · next hl =>
    exact stateStep_legal ⟨hs.bound, hs.reported, fun hst => (hst.elim hl he).elim, hs.confirm, hs.seen,
      Nat.min_le_left .., hs.count, hs.learned, hs.slots, hs.baselines⟩ hx

theorem closeSeen_legal {x : SlotWork} (hw : q.w ≤ 8) (h : c.Legal p) (hx : p.has x.slot = true)
    (he : c.state ≠ .excluded) : (closeSeen rs q p c x).Legal p := by
  have hm := movedCavity_legal (rs := rs) (q := q) h hx he
  rw [closeSeen_eq]
  split
  · exact updateSlots_legal hw hm
  · exact hm

/-- A considered slot is installed: bound slots are by R61, and the others by R58. -/
theorem has_of_considered (h : c.Legal p) {k : Fin 4} (hk : k ∈ considered rs p c) : p.has k = true := by
  cases hb : boundAfterLoss rs p c with
  | some b =>
    rw [considered_of_bound hb, List.mem_singleton] at hk
    rcases boundAfterLoss_cases rs p c with ⟨he, _⟩ | ⟨he, _⟩
    · exact (h.bound k (by rw [← he, hb, hk])).1
    · rw [hb] at he
      cases he
  | none => exact ((mem_considered_of_unbound hb k).mp hk).1

theorem stateStep_not_excluded {k : Fin 4} (h : c.state ≠ .excluded) : (stateStep q k c).state ≠ .excluded := by
  cases hs : c.state <;> simp only [stateStep, hs, suspectStep, enterSuspect] <;> repeat' split
  all_goals simp_all

theorem closeSeen_state (x : SlotWork) : (closeSeen rs q p c x).state = (movedCavity rs q p c x).state := by
  rw [(closeSeen_changes rs q p c x).1]

theorem closeSeen_cracked {x : SlotWork} (h : c.state = .cracked) : (closeSeen rs q p c x).state = .cracked := by
  rw [closeSeen_state, movedCavity, if_neg (by rw [h]; decide)]
  have hs : { seenCavity rs p c x with score := newScore q.d c.score (evidenceOf x) }.state = .cracked := h
  rw [stateStep_cracked hs]
  exact hs

theorem closeSeen_not_excluded {x : SlotWork} (h : c.state ≠ .excluded) : (closeSeen rs q p c x).state ≠ .excluded := by
  rw [closeSeen_state, movedCavity]
  split
  · next hl =>
    rcases learnStep_state q (seenCavity rs p c x) with he | he <;> rw [he]
    · decide
    · exact h
  · exact stateStep_not_excluded h

end

/-- The close of a cavity that is not EXCLUDED: it stays legal, CRACKED is kept, and EXCLUDED is not entered. -/
theorem closeCavity_keeps {rs : List ChanResult} {q : ProfilePlan} {median : Nat → Nat} {i : Nat} {p : CavityPlan}
    {c : CavityCtx} (hw : q.w ≤ 8) (h : c.Legal p) (he : c.state ≠ .excluded) :
    let d := (closeCavity rs q median i p c).after
    d.Legal p ∧ (c.state = .cracked → d.state = .cracked) ∧ d.state ≠ .excluded := by
  cases hd : dominant ((considered rs p c).map (slotWork rs q (median p.group) p c)) with
  | none =>
    have hnone : closeCavity rs q median i p c =
        { number := i, plan := p, before := c, after := closeBlind rs p c, lost := lostBinding rs p c, slots := [],
          evidence := 0, v := 0, a := 0, q := none, median := median p.group } := by
      simp only [closeCavity, hd]
    rw [hnone]
    exact ⟨closeBlind_legal h he, id, he⟩
  | some x =>
    have hmem : x ∈ (considered rs p c).map (slotWork rs q (median p.group) p c) :=
      ((dominant_eq_some_iff (List.pairwise_map.mpr (considered_pairwise rs p c)) x).mp hd).1
    obtain ⟨k, hk, rfl⟩ := List.mem_map.mp hmem
    rw [closeCavity_of_seen hd]
    exact ⟨closeSeen_legal hw h (has_of_considered h hk) he, closeSeen_cracked, closeSeen_not_excluded he⟩

/-! ## The close of all cavities (R57) -/

theorem closeCavity_origin (rs : List ChanResult) (q : ProfilePlan) (median : Nat → Nat) (i : Nat) (p : CavityPlan)
    (c : CavityCtx) :
    (closeCavity rs q median i p c).number = i ∧ (closeCavity rs q median i p c).plan = p ∧
      (closeCavity rs q median i p c).before = c := by
  unfold closeCavity
  dsimp only
  split <;> exact ⟨rfl, rfl, rfl⟩

/-- What the close makes of cavity `i` (R57, R88). -/
def cavityClosed (rs : List ChanResult) (q : ProfilePlan) (c : Context) (i : Nat) (p : CavityPlan) (v : CavityCtx) : CavOut :=
  if v.state = .excluded then passOver i p v
  else closeCavity rs q (groupMedian rs (q.cavities.zip c.cavities)) i p v

theorem cavityClosed_origin (rs : List ChanResult) (q : ProfilePlan) (c : Context) (i : Nat) (p : CavityPlan)
    (v : CavityCtx) :
    (cavityClosed rs q c i p v).number = i ∧ (cavityClosed rs q c i p v).plan = p ∧
      (cavityClosed rs q c i p v).before = v := by
  unfold cavityClosed
  split
  · exact ⟨rfl, rfl, rfl⟩
  · exact closeCavity_origin ..

theorem closeCavities_length {rs : List ChanResult} {q : ProfilePlan} {c : Context}
    (h : c.cavities.length = q.cavities.length) : (closeCavities rs q c).length = c.cavities.length := by
  simp only [closeCavities, List.length_map, List.length_zipIdx, List.length_zip, h, Nat.min_self]

/-- Entry `i` of the close is that of cavity `i` with its plan entry. -/
theorem closeCavities_getElem? {rs : List ChanResult} {q : ProfilePlan} {c : Context} {i : Nat} {o : CavOut} :
    (closeCavities rs q c)[i]? = some o ↔
      ∃ p v, q.cavities[i]? = some p ∧ c.cavities[i]? = some v ∧ o = cavityClosed rs q c i p v := by
  unfold closeCavities
  rw [List.getElem?_map, List.getElem?_zipIdx]
  simp only [Option.map_eq_some_iff, Nat.zero_add]
  constructor
  · rintro ⟨_, ⟨⟨p, v⟩, hpv, rfl⟩, rfl⟩
    obtain ⟨hp, hv⟩ := List.getElem?_zip_eq_some.mp hpv
    exact ⟨p, v, hp, hv, rfl⟩
  · rintro ⟨p, v, hp, hv, rfl⟩
    exact ⟨_, ⟨(p, v), List.getElem?_zip_eq_some.mpr ⟨hp, hv⟩, rfl⟩, rfl⟩

/-- Every cavity of the close is that of its number (R57). -/
theorem mem_closeCavities {rs : List ChanResult} {q : ProfilePlan} {c : Context} {o : CavOut} (h : o ∈ closeCavities rs q c) :
    q.cavities[o.number]? = some o.plan ∧ c.cavities[o.number]? = some o.before ∧
      o = cavityClosed rs q c o.number o.plan o.before := by
  obtain ⟨i, hi⟩ := List.mem_iff_getElem?.mp h
  obtain ⟨p, v, hp, hv, rfl⟩ := closeCavities_getElem?.mp hi
  obtain ⟨hnum, hplan, hbefore⟩ := cavityClosed_origin rs q c i p v
  rw [hnum, hplan, hbefore]
  exact ⟨hp, hv, rfl⟩

/-- Settles O29: each cavity is passed over or closed by a close that keeps it legal. -/
theorem closeKeepsLegal : Obligations.CloseKeepsLegal := by
  intro rs q c hw hlen hlegal
  refine ⟨closeCavities_length hlen, fun o ho => ?_⟩
  obtain ⟨hp, hv, heq⟩ := mem_closeCavities ho
  have hmem : (o.plan, o.before) ∈ q.cavities.zip c.cavities :=
    List.mem_iff_getElem?.mpr ⟨o.number, List.getElem?_zip_eq_some.mpr ⟨hp, hv⟩⟩
  have hl : o.before.Legal o.plan := hlegal _ hmem
  by_cases he : o.before.state = .excluded
  · have hafter : o.after = o.before := by
      rw [heq, cavityClosed, if_pos he]
      rfl
    rw [hafter]
    exact ⟨hl, id, fun _ => rfl, id, hp, hv⟩
  · have hafter : o.after = (closeCavity rs q (groupMedian rs (q.cavities.zip c.cavities)) o.number o.plan o.before).after := by
      conv_lhs => rw [heq, cavityClosed, if_neg he]
    obtain ⟨hlegal', hcracked, hnot⟩ := closeCavity_keeps (rs := rs) (q := q)
      (median := groupMedian rs (q.cavities.zip c.cavities)) (i := o.number) hw hl he
    rw [hafter]
    exact ⟨hlegal', hcracked, fun h => absurd h he, fun h => absurd h hnot, hp, hv⟩

end Sys2Proof.Machine
end

section
/-! PROOFS. Operations that touch neither a relation between the blocks' states nor a context: what of a state stays as it
is under them, said once, and one lemma for each of them. -/

namespace Sys2Proof.Machine

/-! ## What placing does to the producer index, the request in flight and its image -/

/-- The producer index stays in the ring, and work that reads or holds an image is as it was, with its image. -/
structure Placed (s t : State) : Prop where
  ring : t.report.ring = s.report.ring := by rfl
  producer : ∀ r, s.report.ring = some r → s.report.producer < r.size → t.report.producer < r.size := by
    exact fun _ _ h => h
  work : ∀ w, t.mail.work = some w → w.phase = .reading ∨ w.phase = .checked → s.mail.work = some w := by
    exact fun _ h _ => h
  image : ∀ w, t.mail.work = some w → w.phase = .checked → t.table.buf = s.table.buf := by exact fun _ _ _ => rfl

theorem Placed.refl (s : State) : Placed s s := {}

theorem Placed.trans {s t u : State} (h : Placed s t) (g : Placed t u) : Placed s u where
  ring := g.ring.trans h.ring
  producer r hr hp := g.producer r (h.ring.trans hr) (h.producer r hr hp)
  work w hw hp := h.work w (g.work w hw hp) hp
  image w hw hp := (g.image w hw hp).trans (h.image w (g.work w hw (.inr hp)) hp)

theorem raiseNotice_placed (g : Option Gate) (n : Notice) (s : State) : Placed s (raiseNotice g n s) := by
  rcases raiseNotice_cases g n s with h | h <;> rw [h] <;> exact {}

theorem pushMark_placed (c t : Nat) (s : State) : Placed s (pushMark c t s) := by
  rcases pushMark_cases c t s with ⟨-, h⟩ | ⟨-, h⟩ <;> rw [h]
  · exact {}
  · exact raiseNotice_placed ..

theorem raiseDue_placed (items : List StepItem) (s : State) : Placed s (raiseDue items s) := by
  have goesOn : ∀ (u : State) (r : List StepItem), (∀ v, Placed v (raiseDue r v)) → Placed u
      (if gated .closeStep u = true then u.setClosing { u.closing with items := r } else raiseDue r u) := by
    intro u r ih
    split
    · exact {}
    · exact ih u
  induction items generalizing s with
  | nil => exact {}
  | cons i r ih =>
    cases i with
    | post a w => exact {}
    | notice n => exact (raiseNotice_placed _ n s).trans (goesOn _ r ih)
    | markPush c t => exact (pushMark_placed c t s).trans (goesOn _ r ih)

theorem advance_placed (s : State) : Placed s (advance s) := by
  unfold advance
  split
  · exact {}
  · exact raiseDue_placed _ s

/-- A completed request no longer reads or holds an image. -/
theorem complete_placed (r : Result) (s : State) : Placed s (complete r s) := by
  have done : ∀ w, (complete r s).mail.work = some w → w.phase = .done := by
    intro w hw
    obtain ⟨v, -, rfl⟩ := Option.map_eq_some_iff.mp hw
    rfl
  exact
    { work := fun w hw hp => by rw [done w hw] at hp; rcases hp with hp | hp <;> cases hp
      image := fun w hw hp => by rw [done w hw] at hp; cases hp }

/-- A request that is completed may lose its image with it. -/
theorem complete_setTable_placed (r : Result) (s : State) (v : ContextTable) : Placed s (complete r (s.setTable v)) := by
  have h := complete_placed r s
  refine { ring := h.ring, producer := h.producer, work := h.work, image := fun w hw hp => ?_ }
  obtain ⟨x, -, rfl⟩ := Option.map_eq_some_iff.mp hw
  cases hp

theorem placeReport_placed (s : State) : Placed s (placeReport s) := by
  unfold placeReport
  split
  · exact {}
  · exact {}
  · unfold placeNotice
    split
    · exact {}
    · split <;> exact {}
  · exact {}
  · exact {}
  · next ring hring =>
    refine { producer := fun r hr hp => ?_ }
    cases hring.symm.trans hr
    exact Nat.mod_lt _ (by omega)
  · exact {}

theorem placeStatus_placed (s : State) : Placed s (placeStatus s) := by
  unfold placeStatus
  split
  · exact {}
  · exact {}
  · exact Placed.trans {} (raiseNotice_placed ..)
  · refine Placed.trans ?_ (raiseNotice_placed ..)
    exact { work := fun w hw => (by cases hw), image := fun w hw => by cases hw }

theorem placeImage_placed (s : State) : Placed s (placeImage s) := by
  unfold placeImage
  split
  · exact {}
  · simp only
    split
    · exact Placed.trans {} (complete_setTable_placed ..)
    · exact {}
  · exact {}

theorem placeDump_placed (s : State) : Placed s (placeDump s) := by
  unfold placeDump
  split
  · exact {}
  · simp only
    split
    · exact Placed.trans {} (complete_placed ..)
    · exact {}
  · exact {}

theorem placeFetch_placed (s : State) : Placed s (placeFetch s) := by
  unfold placeFetch
  split <;> exact {}

theorem placeNext_placed (p : Producer) (s : State) : Placed s (placeNext p s) := by
  refine Placed.trans ?_ (advance_placed _)
  cases p with
  | reportWriter => exact placeReport_placed s
  | mailbox => exact placeStatus_placed s
  | contextTable => exact placeImage_placed s
  | channelEvaluator => exact placeDump_placed s
  | planLoader => exact placeFetch_placed s

theorem placeUpTo_placed (n : Nat) (s : State) : Placed s (placeUpTo n s) := by
  induction n generalizing s with
  | zero => exact .refl s
  | succ n ih =>
    unfold placeUpTo
    split
    · exact .refl s
    · exact (placeNext_placed _ s).trans (ih _)

theorem settle_placed (s : State) : Placed s (settle s) := (advance_placed s).trans (placeUpTo_placed _ _)

/-! ## Quiet operations -/

/-- `t` is `s` in everything that the invariants of the whole machine speak of, but for what can only be lost: items of
step 4, silence timers, the held set, a frame being worked on, the request in flight. -/
structure Quiet (s t : State) : Prop extends Placed s t where
  run : t.loader.run = s.loader.run := by rfl
  plan : t.loader.plan = s.loader.plan := by rfl
  phase : t.loader.phase = s.loader.phase := by rfl
  retry : t.loader.retry.isSome = s.loader.retry.isSome := by rfl
  contexts : t.table.contexts = s.table.contexts := by rfl
  state : t.tracker.state = s.tracker.state := by rfl
  active : t.tracker.active = s.tracker.active := by rfl
  limit : t.tracker.limitTimer.isSome = s.tracker.limitTimer.isSome := by rfl
  silence : ∀ x ∈ t.asm, x.silenceTimer.isSome = true → ∃ y ∈ s.asm, y.silenceTimer.isSome = true := by
    exact fun x hx h => ⟨x, hx, h⟩
  stage : t.closing.stage = s.closing.stage := by rfl
  items : t.closing.items ≠ [] → s.closing.items ≠ [] := by exact id
  held : t.eval.held.isSome = true → s.eval.held.isSome = true := by exact id
  busy : t.eval.busy.isSome = true → s.eval.busy.isSome = true := by exact id
  accums : t.eval.accums = s.eval.accums := by rfl
  consumer : t.report.consumer = s.report.consumer := by rfl

theorem Quiet.refl (s : State) : Quiet s s := {}

theorem Quiet.trans {s t u : State} (h : Quiet s t) (g : Quiet t u) : Quiet s u where
  toPlaced := h.toPlaced.trans g.toPlaced
  run := g.run.trans h.run
  plan := g.plan.trans h.plan
  phase := g.phase.trans h.phase
  retry := g.retry.trans h.retry
  contexts := g.contexts.trans h.contexts
  state := g.state.trans h.state
  active := g.active.trans h.active
  limit := g.limit.trans h.limit
  silence x hx hs := by
    obtain ⟨y, hy, hys⟩ := g.silence x hx hs
    exact h.silence y hy hys
  stage := g.stage.trans h.stage
  items := h.items ∘ g.items
  held := h.held ∘ g.held
  busy := h.busy ∘ g.busy
  accums := g.accums.trans h.accums
  consumer := g.consumer.trans h.consumer

theorem Quiet.runningPlan {s t : State} (h : Quiet s t) : t.runningPlan = s.runningPlan := by
  rw [State.runningPlan, State.runningPlan, h.run, h.plan]

theorem Quiet.ofSettled {s t : State} (h : Settled s t) (hp : Placed s t)
    (hi : t.closing.items ≠ [] → s.closing.items ≠ []) : Quiet s t where
  toPlaced := hp
  run := h.run
  plan := h.plan
  phase := h.phase
  retry := by rw [h.retry]
  contexts := h.contexts
  state := by rw [h.tracker]
  active := by rw [h.tracker]
  limit := by rw [h.tracker]
  silence x hx hs := ⟨x, h.asm ▸ hx, hs⟩
  stage := h.stage
  items := hi
  held := by rw [h.heldSet]; exact id
  busy := by rw [h.busy]; exact id
  accums := h.accums
  consumer := h.consumer

theorem settle_quietly (s : State) : Quiet s (settle s) :=
  .ofSettled (settle_settled s) (settle_placed s) fun h hs => h ((congrArg Closing.items (settle_quiet hs).2).trans hs)

theorem placeNext_quietly (p : Producer) (s : State) : Quiet s (placeNext p s) :=
  .ofSettled (placeNext_settled p s) (placeNext_placed p s) fun h hs =>
    h ((congrArg Closing.items (placeNext_quiet p hs).2).trans hs)

theorem raiseNotice_quiet (g : Option Gate) (n : Notice) (s : State) : Quiet s (raiseNotice g n s) := by
  rcases raiseNotice_cases g n s with h | h <;> rw [h] <;> exact {}

theorem complete_quiet (r : Result) (s : State) : Quiet s (complete r s) :=
  .ofSettled (complete_settled r s) (complete_placed r s) id

theorem complete_setTable_quiet (r : Result) (s : State) (b : List Word) (xs : List Entry) :
    Quiet s (complete r (s.setTable { s.table with buf := b, items := xs })) :=
  { complete_setTable_placed r s _ with }

/-- Work that is neither reading nor checked may change its phase and the image with it. -/
theorem setPhase_setTable_quiet {p : WorkPhase} (hr : p ≠ .reading) (hc : p ≠ .checked) (s : State) (b : List Word)
    (xs : List Entry) : Quiet s (setPhase p (s.setTable { s.table with buf := b, items := xs })) := by
  have hphase : ∀ w, (setPhase p (s.setTable { s.table with buf := b, items := xs })).mail.work = some w → w.phase = p := by
    intro w hw
    obtain ⟨v, -, rfl⟩ := Option.map_eq_some_iff.mp hw
    rfl
  exact
    { work := fun w hw hp => absurd hp (by rw [hphase w hw]; exact not_or.mpr ⟨hr, hc⟩)
      image := fun w hw hp => absurd hp (by rw [hphase w hw]; exact hc) }

theorem setPhase_quiet {p : WorkPhase} (hr : p ≠ .reading) (hc : p ≠ .checked) (s : State) : Quiet s (setPhase p s) :=
  setPhase_setTable_quiet hr hc s s.table.buf s.table.items

/-! ## Contexts and requests -/

theorem publishZeros_quiet (s : State) : Quiet s (publishZeros s) := {}

theorem publishActivation_quiet (p : Nat) (s : State) : Quiet s (publishActivation p s) := by
  unfold publishActivation
  split <;> exact {}

theorem takeSnapshot_quiet (k : SnapshotKind) (s : State) : Quiet s (takeSnapshot k s) := by
  unfold takeSnapshot
  split
  · exact setPhase_setTable_quiet (by decide) (by decide) s _ _
  · exact complete_quiet _ s
  · exact complete_quiet _ s

theorem doDump_quiet (s : State) : Quiet s (doDump s) := by
  unfold doDump
  split
  · exact Quiet.trans {} (setPhase_quiet (by decide) (by decide) _)
  · exact complete_quiet _ s
  · exact complete_quiet _ s

theorem doAcknowledge_quiet (s : State) : Quiet s (doAcknowledge s) := Quiet.trans {} (complete_quiet _ _)

theorem doOverlay_quiet (s : State) : Quiet s (doOverlay s) := Quiet.trans {} (complete_quiet _ _)

theorem carryOverlay_quiet (s : State) : Quiet s (carryOverlay s) := by
  unfold carryOverlay
  split
  · split
    · exact doOverlay_quiet s
    · exact {}
  · exact {}

/-- A request that is taken is handed over, waits, or is refused: no image is read or held with it. -/
theorem takeRequest_quiet (s : State) : Quiet s (takeRequest s) := by
  unfold takeRequest
  simp only
  split
  · refine Quiet.trans ?_ (complete_quiet _ _)
    exact { work := fun w hw => (by cases hw), image := fun w hw => by cases hw }
  · have hphase : ∀ b : Bool, (if b then WorkPhase.waiting else .handed) ≠ .reading ∧
        (if b then WorkPhase.waiting else .handed) ≠ .checked := by decide
    refine { work := fun w hw hp => ?_, image := fun w hw hp => ?_ }
    · cases hw
      exact absurd hp (not_or.mpr (hphase _))
    · cases hw
      exact absurd hp (hphase _).2

theorem collectWord_quiet (d : Word) (s : State) : Quiet s (collectWord d s) := by
  unfold collectWord
  split
  · exact (takeRequest_quiet s).trans (settle_quietly _)
  · split
    · exact Quiet.trans {} (settle_quietly _)
    · exact {}

theorem examineMailWord_quiet (i : Nat) (d : WriteWord) (s : State) : Quiet s (examineMailWord i d s) := by
  have malformed : Quiet s (settle (malformRequest s)) := Quiet.trans {} (settle_quietly _)
  unfold examineMailWord
  split
  · split <;> exact {}
  · split
    · exact malformed
    · split
      · exact {}
      · split
        · exact collectWord_quiet d.data s
        · exact malformed
  · exact {}

/-! ## Assemblers and the evaluator -/

theorem setAssembler_quiet {s : State} {i : Nat} {x : Assembler}
    (h : x.silenceTimer.isSome = true → (s.assembler i).silenceTimer.isSome = true) : Quiet s (s.setAssembler i x) where
  silence y hy hs := by
    by_cases hi : i < s.asm.length
    · rcases List.mem_or_eq_of_mem_set hy with hy | rfl
      · exact ⟨y, hy, hs⟩
      · refine ⟨s.assembler i, ?_, h hs⟩
        rw [State.assembler, List.getD_eq_getElem _ _ hi]
        exact List.getElem_mem hi
    · rw [State.setAssembler, State.setAsm_asm, List.set_eq_of_length_le (by omega)] at hy
      exact ⟨y, hy, hs⟩

theorem raiseCaptureFault_quiet (i : Nat) (f : CaptureFault) (s : State) : Quiet s (raiseCaptureFault i f s) :=
  (raiseNotice_quiet _ _ s).trans (settle_quietly _)

theorem emptySlot_quiet (i : Nat) (b : Bool) (s : State) : Quiet s (emptySlot i b s) := by
  unfold emptySlot
  simp only
  split <;> exact setAssembler_quiet id

theorem dropBusy_quiet (s : State) : Quiet s (dropBusy s) := by
  unfold dropBusy
  split
  · exact {}
  · exact (emptySlot_quiet _ _ s).trans { busy := fun h => by cases h }

theorem offerFrame_quiet (i : Nat) (f : Frame) (s : State) : Quiet s (offerFrame i f s) := by
  unfold offerFrame
  simp only
  split
  · exact setAssembler_quiet id
  · exact setAssembler_quiet id
  · split
    · split
      · exact setAssembler_quiet id
      · refine Quiet.trans ?_ (raiseCaptureFault_quiet _ _ _)
        exact setAssembler_quiet id
    · exact {}

theorem sequenceCheck_silenceTimer (b : Bool) (q : Nat) (x : Assembler) :
    (sequenceCheck b q x).silenceTimer = x.silenceTimer := by
  unfold sequenceCheck
  split <;> rfl

theorem restartSilence_isSome (x : Assembler) : (restartSilence x).silenceTimer.isSome = x.silenceTimer.isSome := by
  unfold restartSilence
  split
  · rfl
  · exact Option.isSome_map

theorem completeFrame_quiet (i : Nat) (ws : List Word) (s : State) : Quiet s (completeFrame i ws s) := by
  refine Quiet.trans ?_ (offerFrame_quiet i _ _)
  refine Quiet.trans (t := s.setAssembler i _) (setAssembler_quiet fun h => ?_) {}
  rwa [restartSilence_isSome, sequenceCheck_silenceTimer] at h

theorem formatFault_quiet (i : Nat) (s : State) : Quiet s (formatFault i s) := by
  unfold formatFault
  simp only
  split
  · split
    · exact setAssembler_quiet id
    · refine Quiet.trans ?_ (raiseCaptureFault_quiet _ _ _)
      exact setAssembler_quiet id
  · exact setAssembler_quiet id

theorem dropPartial_silenceTimer (b : Bool) (x : Assembler) : (dropPartial b x).silenceTimer = x.silenceTimer := by
  unfold dropPartial
  split <;> rfl

theorem expectedWord_quiet (i : Nat) (w : WindowPlan) (a : Nat) (d : Word) (s : State) :
    Quiet s (expectedWord i w a d s) := by
  unfold expectedWord
  simp only
  split
  · split
    · exact setAssembler_quiet id
    · exact formatFault_quiet i s
  · split
    · exact setAssembler_quiet id
    · refine Quiet.trans ?_ (completeFrame_quiet _ _ _)
      exact setAssembler_quiet id

theorem sequenceBreak_quiet (i : Nat) (w : WindowPlan) (a : Nat) (d : Word) (s : State) :
    Quiet s (sequenceBreak i w a d s) := by
  have hdrop : (dropPartial s.isOpen (s.assembler i)).silenceTimer.isSome = true →
      (s.assembler i).silenceTimer.isSome = true := by
    rw [dropPartial_silenceTimer]
    exact id
  unfold sequenceBreak
  simp only
  split <;> exact setAssembler_quiet hdrop

theorem examineRingWord_quiet (i : Nat) (w : WindowPlan) (a : Nat) (d : WriteWord) (s : State) :
    Quiet s (examineRingWord i w a d s) := by
  unfold examineRingWord
  simp only
  split
  · split
    · exact setAssembler_quiet id
    · exact {}
  · split
    · refine setAssembler_quiet fun h => ?_
      rwa [show (toHunt (dropPartial s.isOpen (s.assembler i))).silenceTimer = (s.assembler i).silenceTimer from
        dropPartial_silenceTimer ..] at h
    · split
      · exact expectedWord_quiet ..
      · exact sequenceBreak_quiet ..

/-! ## Tracker, timers, port -/

theorem advanceMarks_quiet (pl : Plan) (c : Nat) (s : State) : Quiet s (advanceMarks pl c s) := by
  unfold advanceMarks
  simp only
  split <;> exact {}

theorem clearAbandoned_quiet (w : StateWord) (b : Bool) (s : State) : Quiet s (clearAbandoned w b s) := by
  unfold clearAbandoned
  split <;> exact {}

theorem closingPhase_quiet (w : StateWord) (s : State) : Quiet s (closingPhase w s) := by
  unfold closingPhase
  split <;> exact {}

theorem tickWindow_quiet (s : State) : Quiet s (tickWindow s) := by
  unfold tickWindow
  split
  · split
    · refine { limit := Option.isSome_map, silence := fun x hx hs => ?_ }
      obtain ⟨y, hy, rfl⟩ := List.mem_map.mp hx
      exact ⟨y, hy, by rwa [tickSilence, Option.isSome_map] at hs⟩
    · exact {}
  · exact {}

theorem tickRetry_frame (l : Loader) :
    (tickRetry l).run = l.run ∧ (tickRetry l).plan = l.plan ∧ (tickRetry l).phase = l.phase ∧
      (tickRetry l).retry.isSome = l.retry.isSome := by
  unfold tickRetry
  split
  · exact ⟨rfl, rfl, rfl, Option.isSome_map⟩
  · exact ⟨rfl, rfl, rfl, rfl⟩
  · exact ⟨rfl, rfl, rfl, rfl⟩

theorem tick_quiet (s : State) : Quiet s
    (((tickWindow s).setOut (tickPulse (tickWindow s).out)).setLoader (tickRetry (tickWindow s).loader)) := by
  obtain ⟨hrun, hplan, hphase, hretry⟩ := tickRetry_frame (tickWindow s).loader
  exact (tickWindow_quiet s).trans { run := hrun, plan := hplan, phase := hphase, retry := hretry }

theorem expireSilence_quiet (i : Nat) (s : State) : Quiet s (expireSilence i s) :=
  Quiet.trans (by exact setAssembler_quiet fun h => by cases h) (raiseCaptureFault_quiet _ _ _)

theorem takeRead_quiet (r : ReadBurst) (s : State) : Quiet s (takeRead r s) := by
  unfold takeRead
  simp only
  split <;> exact {}

theorem forwardDirect_quiet (s : State) (t : Txn) : Quiet s (forwardDirect s t) := by
  cases t <;> exact {}

end Sys2Proof.Machine
end

section
/-! PROOFS. What keeps a context legal: an image that passes the field check, a cavity request, sums in range at a close, and
the values of an accepted plan. -/

namespace Sys2Proof.Machine

/-! ## Bit fields -/

theorem bitsAt_lt (w : Word) (lo width : Nat) : bitsAt w lo width < 2 ^ width := Nat.mod_lt _ (Nat.two_pow_pos width)

theorem signed16_range (v : Nat) : -32768 ≤ signed16 v ∧ signed16 v ≤ 32767 := by
  unfold signed16
  split <;> omega

theorem signed24_range (v : Nat) : -8388608 ≤ signed24 v ∧ signed24 v ≤ 8388607 := by
  unfold signed24
  split <;> omega

/-! ## Images that pass the field check (R107) -/

theorem suspected_iff (st : CavState) : st.suspected = true ↔ st = .suspect ∨ st = .cracked := by
  cases st <;> decide

theorem unscored_iff (st : CavState) : st.unscored = true ↔ st = .learning ∨ st = .excluded := by
  cases st <;> decide

/-- A slot field that passes names none or an installed slot. -/
theorem slotFieldOk_iff (p : CavityPlan) (code : Nat) :
    slotFieldOk p code = true ↔ ∃ b, slotOfCode code = some b ∧ ∀ k, b = some k → p.has k = true := by
  unfold slotFieldOk
  split <;> simp [*]

theorem slotOfCode_seven : slotOfCode 7 = some none := rfl

/-- The fields of a cavity that passes the check, `st` being its state (R107). -/
structure CavityFields (p : CavityPlan) (w1 w2 : Word) (st : CavState) : Prop where
  state : CavState.ofCode (bitsAt w1 0 3) = some st
  bound : slotFieldOk p (bitsAt w1 8 3) = true
  unbound : bitsAt w1 8 3 = 7 ∨ st.suspected = true
  reported : slotFieldOk p (bitsAt w1 12 3) = true
  unscored : bitsAt w2 0 16 = 0 ∨ st.unscored = false
  confirm : bitsAt w1 4 3 = 0 ∨ st.suspected = true
  seen : bitAt w1 3 = false ∨ st ≠ .excluded
  learned : bitsAt w2 16 9 ≤ 256

theorem cavityFieldsOk_iff (p : CavityPlan) (w1 w2 : Word) :
    cavityFieldsOk p w1 w2 = true ↔ ∃ st, CavityFields p w1 w2 st := by
  unfold cavityFieldsOk
  split
  next hs =>
    refine ⟨fun h => (by cases h), fun ⟨st, h⟩ => ?_⟩
    exact absurd (hs.symm.trans h.state) (by simp)
  next st hs =>
    simp only [Bool.and_eq_true, Bool.or_eq_true, decide_eq_true_eq, Bool.not_eq_true', bne_iff_ne]
    constructor
    · rintro ⟨⟨⟨⟨⟨⟨h1, h2⟩, h3⟩, h4⟩, h5⟩, h6⟩, h7⟩
      exact ⟨st, hs, h1, h2, h3, h4, h5, h6, h7⟩
    · rintro ⟨st', hs', h1, h2, h3, h4, h5, h6, h7⟩
      cases hs.symm.trans hs'
      exact ⟨⟨⟨⟨⟨⟨h1, h2⟩, h3⟩, h4⟩, h5⟩, h6⟩, h7⟩

theorem slotFieldsOk_iff (w : Word) : slotFieldsOk w = true ↔ bitsAt w 0 20 ≤ 524288 ∧ bitsAt w 20 9 ≤ 256 := by
  rw [slotFieldsOk, Bool.and_eq_true, decide_eq_true_iff, decide_eq_true_iff]
  exact Iff.rfl

/-- The field check, cavity by cavity and slot word by slot word. -/
theorem imageFieldsOk_iff (q : ProfilePlan) (ws : List Word) :
    imageFieldsOk q ws = true ↔
      (∀ i p, q.cavities[i]? = some p → cavityFieldsOk p (planWord ws (8 + 2 * i)) (planWord ws (9 + 2 * i)) = true) ∧
        ∀ j, j < 4 * q.cavities.length → slotFieldsOk (planWord ws (8 + 2 * q.cavities.length + j)) = true := by
  simp only [imageFieldsOk, Bool.and_eq_true, List.all_eq_true, List.mem_range, Prod.forall, List.mem_zipIdx_iff_getElem?]
  exact and_congr_left fun _ => ⟨fun h i p hp => h p i hp, fun h p i hp => h i p hp⟩

theorem readCavityCtx_legal {p : CavityPlan} {ws : List Word} {n i : Nat}
    (h : cavityFieldsOk p (planWord ws (8 + 2 * i)) (planWord ws (9 + 2 * i)) = true)
    (hs : ∀ k, k < 4 → slotFieldsOk (slotWordAt ws n i k) = true) : (readCavityCtx ws n i).Legal p := by
  obtain ⟨st, hf⟩ := (cavityFieldsOk_iff _ _ _).mp h
  have hstate : (readCavityCtx ws n i).state = st := by simp only [readCavityCtx, hf.state, Option.getD_some]
  refine ⟨fun k hk => ?_, fun k hk => ?_, fun hst => ?_, fun hn => ?_, fun hx => ?_, ?_, ?_, hf.learned, rfl, ?_⟩
  · obtain ⟨b, hb, hok⟩ := (slotFieldOk_iff _ _).mp hf.bound
    have hbound : b = some k := by simpa only [readCavityCtx, hb, Option.getD_some] using hk
    rw [hstate, ← suspected_iff]
    refine ⟨hok k hbound, hf.unbound.resolve_left fun h7 => ?_⟩
    rw [h7, slotOfCode_seven] at hb
    cases hb
    cases hbound
  · obtain ⟨b, hb, hok⟩ := (slotFieldOk_iff _ _).mp hf.reported
    exact hok k (by simpa only [readCavityCtx, hb, Option.getD_some] using hk)
  · rw [hstate, ← unscored_iff] at hst
    exact hf.unscored.resolve_right (by rw [hst]; decide)
  · rw [hstate, ← suspected_iff]
    exact hf.confirm.resolve_left hn
  · exact hf.seen.resolve_right fun hne => hne (hstate ▸ hx)
  · exact Nat.le_of_lt_succ (bitsAt_lt _ 0 16)
  · exact Nat.le_of_lt_succ (bitsAt_lt _ 4 3)
  · intro y hy
    obtain ⟨k, hk, rfl⟩ := List.mem_map.mp hy
    exact (slotFieldsOk_iff _).mp (hs k (List.mem_range.mp hk))

/-- The context of an image that passes the field check is legal (R107, R109). -/
theorem readContext_legal {q : ProfilePlan} {ws : List Word} (h : imageFieldsOk q ws = true) :
    Context.Legal q (readContext q ws) := by
  obtain ⟨hcav, hslot⟩ := (imageFieldsOk_iff q ws).mp h
  refine ⟨by simp [readContext], fun x hx => ?_, ?_, fun x hx => ?_⟩
  · obtain ⟨i, hi⟩ := List.mem_iff_getElem?.mp hx
    obtain ⟨hp, hv⟩ := List.getElem?_zip_eq_some.mp hi
    have hlt : i < q.cavities.length := (List.getElem?_eq_some_iff.mp hp).1
    simp only [readContext, List.getElem?_map, List.getElem?_range hlt, Option.map_some, Option.some.injEq] at hv
    rw [← hv]
    refine readCavityCtx_legal (hcav i x.1 hp) fun k hk => ?_
    have hword := hslot (4 * i + k) (by omega)
    rwa [← Nat.add_assoc] at hword
  · simp only [readContext, List.map_map, Function.comp_def]
    exact List.zipIdx_map_fst ..
  · simp only [readContext, List.mem_map] at hx
    obtain ⟨y, -, rfl⟩ := hx
    exact signed16_range _

/-! ## Fresh contexts and cavity requests -/

theorem freshCavity_legal (p : CavityPlan) : (freshCavity p).Legal p where
  bound k hk := by cases hk
  reported k hk := by cases hk
  unscored _ := rfl
  confirm h := absurd rfl h
  seen _ := rfl
  score := Nat.zero_le _
  count := Nat.zero_le _
  learned := Nat.zero_le _
  slots := rfl
  baselines y hy := by
    rw [List.eq_of_mem_replicate hy]
    exact ⟨Nat.zero_le _, Nat.zero_le _⟩

theorem freshContext_legal (q : ProfilePlan) : Context.Legal q (freshContext q) := by
  refine ⟨by simp [freshContext], fun x hx => ?_, ?_, fun x hx => ?_⟩
  · obtain ⟨i, hi⟩ := List.mem_iff_getElem?.mp hx
    obtain ⟨hp, hv⟩ := List.getElem?_zip_eq_some.mp hi
    simp only [freshContext, List.getElem?_map, hp, Option.map_some, Option.some.injEq] at hv
    rw [← hv]
    exact freshCavity_legal _
  · simp only [freshContext, List.map_map, Function.comp_def, List.map_id']
  · simp only [freshContext, List.mem_map] at hx
    obtain ⟨n, -, rfl⟩ := hx
    exact ⟨by norm_num, by norm_num⟩

section
variable {p : CavityPlan} {c : CavityCtx}

theorem releaseCavity_legal (mode : Nat) (h : c.Legal p) : (releaseCavity mode c).Legal p := by
  unfold releaseCavity
  split
  · refine ⟨fun k hk => (by cases hk), h.reported, fun _ => rfl, fun hn => absurd rfl hn, fun hx => (by cases hx),
      Nat.zero_le _, Nat.zero_le _, Nat.zero_le _, (List.length_map _).trans h.slots, fun y hy => ?_⟩
    obtain ⟨_, _, rfl⟩ := List.mem_map.mp hy
    exact ⟨Nat.zero_le _, Nat.zero_le _⟩
  · exact ⟨fun k hk => (by cases hk), h.reported, fun _ => rfl, fun hn => absurd rfl hn, fun hx => (by cases hx),
      Nat.zero_le _, Nat.zero_le _, h.learned, h.slots, h.baselines⟩

theorem excludeCavity_legal (h : c.Legal p) : (excludeCavity c).Legal p :=
  ⟨fun k hk => (by cases hk), h.reported, fun _ => rfl, fun hn => absurd rfl hn, fun _ => rfl, Nat.zero_le _,
    Nat.zero_le _, h.learned, h.slots, h.baselines⟩

theorem includeCavity_legal (h : c.Legal p) : (includeCavity c).Legal p :=
  ⟨fun k hk => (by cases hk), h.reported, fun _ => rfl, fun hn => absurd rfl hn, fun _ => rfl, Nat.zero_le _,
    Nat.zero_le _, Nat.zero_le _, h.slots, h.baselines⟩

theorem setEnables_legal (mask : Nat) (h : c.Legal p) : (setEnables mask c).Legal p :=
  ⟨h.bound, h.reported, h.unscored, h.confirm, h.seen, h.score, h.count, h.learned, h.slots, h.baselines⟩

end

/-- The legal context's cavity `i` may be replaced by one that is legal for its plan entry. -/
theorem Context.Legal.setCavity {q : ProfilePlan} {x : Context} {i : Nat} {v : CavityCtx} (h : Context.Legal q x)
    (hv : ∀ p, q.cavities[i]? = some p → v.Legal p) : Context.Legal q { x with cavities := x.cavities.set i v } := by
  refine ⟨List.length_set.trans h.count, fun y hy => ?_, h.channels, h.offsets⟩
  obtain ⟨j, hj⟩ := List.mem_iff_getElem?.mp hy
  obtain ⟨hp, hw⟩ := List.getElem?_zip_eq_some.mp hj
  rw [List.getElem?_set] at hw
  split at hw
  next he =>
    split at hw
    · cases hw
      exact hv _ (he ▸ hp)
    · cases hw
  · exact h.cavities y (List.mem_iff_getElem?.mpr ⟨j, List.getElem?_zip_eq_some.mpr ⟨hp, hw⟩⟩)

theorem Context.Legal.cavity {q : ProfilePlan} {x : Context} {i : Nat} {p : CavityPlan} {v : CavityCtx}
    (h : Context.Legal q x) (hp : q.cavities[i]? = some p) (hv : x.cavities[i]? = some v) : v.Legal p :=
  h.cavities (p, v) (List.mem_iff_getElem?.mpr ⟨i, List.getElem?_zip_eq_some.mpr ⟨hp, hv⟩⟩)

/-! ## Sums of samples (R17, R18, R37) -/

/-- The sum of a set is one of as many 16-bit samples as it counts. -/
def Accum.Fits (a : Accum) : Prop := -32768 * (a.n : Int) ≤ a.s1 ∧ a.s1 ≤ 32767 * (a.n : Int)

theorem Accum.cleared_fits (o : Int) : (Accum.cleared o).Fits := ⟨le_rfl, le_rfl⟩

theorem countHit_sums (c : ChannelPlan) (a : Accum) : (countHit c a).n = a.n ∧ (countHit c a).s1 = a.s1 := by
  unfold countHit
  split <;> exact ⟨rfl, rfl⟩

theorem detect_sums (c : ChannelPlan) (i dev : Nat) (a : Accum) :
    (detect c i dev a).n = a.n ∧ (detect c i dev a).s1 = a.s1 := by
  unfold detect
  split
  · split <;> exact ⟨rfl, rfl⟩
  · split
    · exact ⟨rfl, rfl⟩
    · simp only
      split
      · exact countHit_sums ..
      · exact ⟨rfl, rfl⟩
  · exact ⟨rfl, rfl⟩

theorem accumulate_fits (c : ChannelPlan) {x : Int} {a : Accum} (hx : -32768 ≤ x ∧ x ≤ 32767) (h : a.Fits) :
    (accumulate c x a).Fits := by
  obtain ⟨hlo, hhi⟩ := h
  have grown : ∀ b : Accum, b.n = a.n + 1 → b.s1 = a.s1 + x → b.Fits := by
    intro b hn hs
    constructor <;> rw [hn, hs] <;> push_cast <;> omega
  unfold accumulate
  split
  · exact ⟨hlo, hhi⟩
  · simp only
    split
    · obtain ⟨hn, hs⟩ := detect_sums c a.n (deviation x a.offset)
        { a with
          n := a.n + 1, s1 := a.s1 + x, s2 := a.s2 + x.natAbs * x.natAbs
          clips := if isClip x then satAdd 65535 a.clips 1 else a.clips }
      exact grown _ hn hs
    · exact grown _ rfl rfl

theorem accum_fits {e : Evaluator} (h : ∀ a ∈ e.accums, a.Fits) (n : Nat) : (e.accum n).Fits := by
  rw [Evaluator.accum, List.getD_eq_getElem?_getD]
  cases hn : e.accums[n]? with
  | none => exact Accum.cleared_fits 0
  | some a => exact h a (List.mem_of_getElem? hn)

theorem accumulateSample_fits (p : Plan) {e : Evaluator} {x : Nat × Int} (hx : -32768 ≤ x.2 ∧ x.2 ≤ 32767)
    (h : ∀ a ∈ e.accums, a.Fits) : ∀ a ∈ (accumulateSample p e x).accums, a.Fits := by
  unfold accumulateSample
  split
  · exact h
  · intro a ha
    rcases List.mem_or_eq_of_mem_set ha with ha | rfl
    · exact h a ha
    · exact accumulate_fits _ hx (accum_fits h _)

theorem pairSamples_range {h : HalfOrder} {w : Word} {x : Int} (hx : x ∈ pairSamples h w) : -32768 ≤ x ∧ x ≤ 32767 := by
  cases h <;> simp only [pairSamples, List.mem_cons, List.not_mem_nil, or_false] at hx <;> rcases hx with rfl | rfl <;>
    exact signed16_range _

theorem soloSample_range (w : Word) : -32768 ≤ soloSample w ∧ soloSample w ≤ 32767 := by
  obtain ⟨hlo, hhi⟩ := signed24_range (bitsAt w 0 24)
  rw [soloSample, Int.fdiv_eq_ediv_of_nonneg _ (by decide)]
  omega

theorem scanSamples_range {w : WindowPlan} {words : List Word} {x : Nat × Int} (hx : x ∈ scanSamples w words) :
    -32768 ≤ x.2 ∧ x.2 ≤ 32767 := by
  unfold scanSamples at hx
  split at hx
  · obtain ⟨d, -, hd⟩ := List.mem_flatMap.mp (List.of_mem_zip hx).2
    exact pairSamples_range hd
  · obtain ⟨d, -, hd⟩ := List.mem_map.mp (List.of_mem_zip hx).2
    rw [← hd]
    exact soloSample_range d

theorem scansSamples_range {w : WindowPlan} {n : Nat} {words : List Word} {x : Nat × Int}
    (hx : x ∈ scansSamples w n words) : -32768 ≤ x.2 ∧ x.2 ≤ 32767 := by
  induction n generalizing words with
  | zero => cases hx
  | succ n ih =>
    rcases List.mem_append.mp hx with hx | hx
    · exact scanSamples_range hx
    · exact ih hx

theorem accumulateSamples_fits (p : Plan) {xs : List (Nat × Int)} {e : Evaluator}
    (hx : ∀ x ∈ xs, -32768 ≤ x.2 ∧ x.2 ≤ 32767) (h : ∀ a ∈ e.accums, a.Fits) :
    ∀ a ∈ (xs.foldl (accumulateSample p) e).accums, a.Fits := by
  induction xs generalizing e with
  | nil => exact h
  | cons x xs ih =>
    exact ih (fun y hy => hx y (List.mem_cons_of_mem _ hy))
      (accumulateSample_fits p (hx x List.mem_cons_self) h)

theorem accumulateFrame_fits (p : Plan) (w : WindowPlan) (f : Frame) {e : Evaluator} (h : ∀ a ∈ e.accums, a.Fits) :
    ∀ a ∈ (accumulateFrame p w f e).accums, a.Fits :=
  accumulateSamples_fits p (fun _ hx => scansSamples_range hx) h

/-! ## The context after a close -/

/-- The mean of 16-bit samples is one (R48). -/
theorem meanOffset_range {a : Accum} (h : a.Fits) : -32768 ≤ meanOffset a.n a.s1 ∧ meanOffset a.n a.s1 ≤ 32767 := by
  obtain ⟨hlo, hhi⟩ := h
  rw [meanOffset]
  rcases Nat.eq_zero_or_pos a.n with hn | hn
  · rw [hn]
    simp
  · have hpos : (0 : Int) < a.n := by exact_mod_cast hn
    rcases le_total 0 a.s1 with hs | hs
    · rw [Int.tdiv_eq_ediv_of_nonneg hs]
      have hle : a.s1 / (a.n : Int) ≤ 32767 := Int.ediv_le_of_le_mul hpos (by omega)
      have hge : 0 ≤ a.s1 / (a.n : Int) := Int.ediv_nonneg hs hpos.le
      omega
    · have hneg : a.s1.tdiv a.n = -((-a.s1) / (a.n : Int)) := by
        rw [← Int.tdiv_eq_ediv_of_nonneg (by omega), Int.neg_tdiv, neg_neg]
      have hle : (-a.s1) / (a.n : Int) ≤ 32768 := Int.ediv_le_of_le_mul hpos (by omega)
      have hge : 0 ≤ (-a.s1) / (a.n : Int) := Int.ediv_nonneg (by omega) hpos.le
      omega

theorem closeChannels_fits {s : State} {pl : Plan} (h : ∀ a ∈ s.eval.accums, a.Fits) {r : ChanResult}
    (hr : r ∈ closeChannels s pl) : r.acc.Fits := by
  obtain ⟨n, c, hn, hc, rfl⟩ := mem_closeChannels.mp hr
  obtain ⟨hcount, hsum, _⟩ := closeHit_sums c (s.eval.accum c.number)
  rw [closeChannel_acc, Accum.Fits, hcount, hsum]
  exact accum_fits h c.number

theorem finalAccums_fits {rs : List ChanResult} {xs : List Accum} (hr : ∀ r ∈ rs, r.acc.Fits) (h : ∀ a ∈ xs, a.Fits) :
    ∀ a ∈ finalAccums rs xs, a.Fits := by
  induction rs generalizing xs with
  | nil => exact h
  | cons r rs ih =>
    refine ih (fun q hq => hr q (List.mem_cons_of_mem _ hq)) fun a ha => ?_
    rcases List.mem_or_eq_of_mem_set ha with ha | rfl
    · exact h a ha
    · exact hr r List.mem_cons_self

theorem closeChannelCtx_number (rs : List ChanResult) (c : ChannelCtx) : (closeChannelCtx rs c).number = c.number := by
  unfold closeChannelCtx
  split <;> rfl

theorem closeChannelCtx_offset {rs : List ChanResult} {c : ChannelCtx} (hr : ∀ r ∈ rs, r.acc.Fits)
    (h : -32768 ≤ c.offset ∧ c.offset ≤ 32767) :
    -32768 ≤ (closeChannelCtx rs c).offset ∧ (closeChannelCtx rs c).offset ≤ 32767 := by
  unfold closeChannelCtx
  split
  · exact h
  next r hres =>
    simp only
    split
    · exact meanOffset_range (hr r (List.mem_of_find?_eq_some hres))
    · exact h

/-- The context after steps 1 and 2 of a close is legal (R48, R57, R97). -/
theorem stepTwoContext_legal {rs : List ChanResult} {x : CloseInput} (hw : x.profile.w ≤ 8) (hr : ∀ r ∈ rs, r.acc.Fits)
    (h : Context.Legal x.profile x.context) :
    Context.Legal x.profile (stepTwoContext rs x (closeCavities rs x.profile x.context)) := by
  obtain ⟨hlen, hkeep⟩ := closeKeepsLegal rs x.profile x.context hw h.count h.cavities
  refine ⟨(List.length_map _).trans (hlen.trans h.count), fun y hy => ?_, ?_, fun y hy => ?_⟩
  · obtain ⟨i, hi⟩ := List.mem_iff_getElem?.mp hy
    obtain ⟨hp, hv⟩ := List.getElem?_zip_eq_some.mp hi
    simp only [stepTwoContext, List.getElem?_map, Option.map_eq_some_iff] at hv
    obtain ⟨o, ho, hoy⟩ := hv
    obtain ⟨p, v, hp', hv', rfl⟩ := closeCavities_getElem?.mp ho
    obtain ⟨hlegal, -⟩ := hkeep _ (List.mem_of_getElem? ho)
    obtain ⟨-, hplan, -⟩ := cavityClosed_origin rs x.profile x.context i p v
    rw [hplan] at hlegal
    cases hp.symm.trans hp'
    rwa [← hoy]
  · simp only [stepTwoContext, stepOneContext, List.map_map, Function.comp_def, closeChannelCtx_number]
    exact h.channels
  · simp only [stepTwoContext, stepOneContext, List.mem_map] at hy
    obtain ⟨c, hc, rfl⟩ := hy
    exact closeChannelCtx_offset hr (h.offsets c hc)

/-! ## Plans that are accepted -/

/-- What a plan is judged by (R147): its sections lie within the length, and no check fails. -/
theorem judgePlan_ok {ws : List Word} {len base : Nat} {r : Plan × Nat} (h : judgePlan ws len base = .ok r) :
    ∃ starts, planSections ws len = some starts ∧
      structuralFault ws base starts (readPlan ws starts) = .none ∧ r = clampPlan (readPlan ws starts) := by
  unfold judgePlan at h
  split at h
  · cases h
  next starts hs =>
    simp only at h
    split at h
    next hf =>
      cases h
      exact ⟨starts, hs, hf, rfl⟩
    · cases h

theorem structuralFault_none {ws : List Word} {base : Nat} {starts : List Nat} {p : Plan}
    (h : structuralFault ws base starts p = .none) :
    windowsOk ws base p = true ∧ channelsOk ws p = true ∧ profilesOk ws starts p = true ∧
      p.profiles.all (cavitiesOk p) = true ∧ ringOk p = true ∧ addressesOk base p = true := by
  unfold structuralFault at h
  simp only [Bool.not_eq_true'] at h
  repeat' split at h
  all_goals simp_all

theorem clampNat_range {a b x : Nat} (h : a ≤ b) : a ≤ clampNat a b x ∧ clampNat a b x ≤ b := by
  unfold clampNat
  split
  · omega
  · split <;> omega

theorem clampProfile_w_le (q : ProfilePlan) : (clampProfile q).1.w ≤ 8 := (clampNat_range (by decide)).2

/-- An accepted plan's learning exponents are at most 8, and its notice ring has room for an index. -/
theorem judgePlan_bounds {ws : List Word} {len base : Nat} {pl : Plan} {n : Nat} (h : judgePlan ws len base = .ok (pl, n)) :
    (∀ q ∈ pl.profiles, q.w ≤ 8) ∧ 0 < pl.ringSize := by
  obtain ⟨starts, -, hf, hpl⟩ := judgePlan_ok h
  obtain ⟨-, -, -, -, hring, -⟩ := structuralFault_none hf
  cases hpl
  constructor
  · intro q hq
    obtain ⟨_, hr, rfl⟩ := List.mem_map.mp hq
    obtain ⟨r, -, rfl⟩ := List.mem_map.mp hr
    exact clampProfile_w_le r
  · rw [ringOk, Bool.and_eq_true, List.contains_iff_mem] at hring
    have hsize : ∀ n ∈ [16, 32, 64, 128, 256, 512, 1024], 0 < n := by decide
    exact hsize _ hring.1

end Sys2Proof.Machine
end

section
/-! PROOFS. Every command keeps the blocks' states consistent and every context legal. -/

namespace Sys2Proof.Machine

/-- `t` is consistent, with both notice indices in the ring, if `s` is, and has only legal contexts if `s` has. -/
structure Keeps (s t : State) : Prop where
  sound : s.Consistent ∧ s.RingSound → t.Consistent ∧ t.RingSound
  legal : s.LegalContexts → t.LegalContexts

theorem Keeps.refl (s : State) : Keeps s s := ⟨id, id⟩

theorem Keeps.trans {s t u : State} (h : Keeps s t) (g : Keeps t u) : Keeps s u :=
  ⟨g.sound ∘ h.sound, g.legal ∘ h.legal⟩

section
variable {s t : State}

theorem Quiet.contextCount (h : Quiet s t) : t.contextCount = s.contextCount := by
  rw [State.contextCount, State.contextCount, h.plan]

theorem Quiet.consistent (h : Quiet s t) (g : s.Consistent) : t.Consistent where
  plan := by rw [h.run, h.plan]; exact g.plan
  load := by rw [h.phase, h.run]; exact g.load
  retry := by rw [h.retry, h.run]; exact g.retry
  contexts := by rw [h.contexts, h.contextCount]; exact g.contexts
  active := by rw [h.active, h.contexts]; exact g.active
  noMould := by rw [h.state, h.active]; exact g.noMould
  limit := by rw [h.limit, h.state]; exact g.limit
  silence x hx hs := by
    obtain ⟨y, hy, hys⟩ := h.silence x hx hs
    rw [h.state]
    exact g.silence y hy hys
  closing := by rw [h.stage, h.state]; exact g.closing
  items := by rw [h.stage]; exact g.items ∘ h.items
  held := by rw [h.state]; exact g.held ∘ h.held
  busy := by rw [h.run]; exact g.busy ∘ h.busy

theorem Quiet.ringSound (h : Quiet s t) (g : s.RingSound) : t.RingSound where
  plan pl hpl := h.ring.trans (g.plan pl (h.plan.symm.trans hpl))
  indices r hr := by
    have hr' := h.ring.symm.trans hr
    obtain ⟨hp, hc⟩ := g.indices r hr'
    exact ⟨h.producer r hr' hp, by rwa [h.consumer]⟩

theorem Quiet.legalContexts (h : Quiet s t) (g : s.LegalContexts) : t.LegalContexts where
  exponents := by rw [h.plan]; exact g.exponents
  contexts := by rw [h.plan, h.contexts]; exact g.contexts
  sums := by rw [h.accums]; exact g.sums
  restore w hw hp := g.restore w (h.work w hw hp) hp
  image w pl q hw hp hpl hq := by
    rw [h.image w hw hp]
    exact g.image w pl q (h.work w hw (.inr hp)) hp (h.plan.symm.trans hpl) hq

theorem Quiet.keeps (h : Quiet s t) : Keeps s t :=
  ⟨fun g => ⟨h.consistent g.1, h.ringSound g.2⟩, h.legalContexts⟩

end

theorem settle_keeps (s : State) : Keeps s (settle s) := (settle_quietly s).keeps

/-! ## Windows -/

theorem runningPlan_eq_some {s : State} {pl : Plan} (h : s.runningPlan = some pl) :
    s.loader.run = .running ∧ s.loader.plan = some pl := by
  unfold State.runningPlan at h
  split at h
  next hr => exact ⟨hr, h⟩
  · cases h
  · cases h

section
variable {s : State}

theorem State.Consistent.stage_idle (g : s.Consistent) (h : s.tracker.state ≠ .closing) : s.closing.stage = .idle :=
  g.closing.mpr h

theorem State.Consistent.no_items (g : s.Consistent) (h : s.tracker.state ≠ .closing) : s.closing.items = [] := by
  by_contra hi
  have := (g.stage_idle h).symm.trans (g.items hi)
  cases this

theorem State.Consistent.no_silence (g : s.Consistent) (h : s.tracker.state ≠ .opened) :
    ∀ x ∈ s.asm, x.silenceTimer.isSome = true → False := fun x hx hs => h (g.silence x hx hs)

theorem openAccums_fits (c : Context) : ∀ a ∈ openAccums c, a.Fits := by
  intro a ha
  obtain ⟨n, -, rfl⟩ := List.mem_map.mp ha
  exact Accum.cleared_fits _

theorem openWindow_keeps (pl : Plan) (c : Nat) (l : Bool) (h : s.tracker.state = .armed) :
    Keeps s (openWindow pl c l s) where
  sound g := by
    obtain ⟨g, hr⟩ := g
    exact ⟨{
      plan := g.plan
      load := g.load
      retry := g.retry
      contexts := g.contexts
      active := g.active
      noMould := ⟨fun hn => (by cases hn), fun ha => absurd (g.noMould.mpr ha) (by rw [h]; decide)⟩
      limit := ⟨fun _ => rfl, fun _ => rfl⟩
      silence := fun _ _ _ => rfl
      closing := ⟨fun _ => nofun, fun _ => g.stage_idle (by rw [h]; decide)⟩
      items := g.items
      held := fun _ => nofun
      busy := g.busy }, ⟨hr.plan, hr.indices⟩⟩
  legal g := ⟨g.exponents, g.contexts, openAccums_fits _, g.restore, g.image⟩

theorem stopSilence_none (xs : List Assembler) : ∀ x ∈ stopSilence xs, x.silenceTimer = none := by
  intro x hx
  obtain ⟨y, -, rfl⟩ := List.mem_map.mp hx
  rfl

theorem stopSilence_stopped (xs : List Assembler) {p : Prop} : ∀ x ∈ stopSilence xs, x.silenceTimer.isSome = true → p := by
  intro x hx hs
  rw [stopSilence_none xs x hx] at hs
  cases hs

theorem closeWindow_keeps (d : Bool) (h : s.tracker.state = .opened) : Keeps s (closeWindow d s) where
  sound g := by
    obtain ⟨g, hr⟩ := g
    exact ⟨{
      plan := g.plan
      load := g.load
      retry := g.retry
      contexts := g.contexts
      active := g.active
      noMould := ⟨fun hn => (by cases hn), fun ha => absurd (g.noMould.mpr ha) (by rw [h]; decide)⟩
      limit := ⟨fun hn => (by cases hn), fun hn => (by cases hn)⟩
      silence := stopSilence_stopped _
      closing := ⟨fun hn => (by cases hn), fun hn => absurd rfl hn⟩
      items := fun hn => absurd rfl hn
      held := fun _ => nofun
      busy := g.busy }, ⟨hr.plan, hr.indices⟩⟩
  legal g := ⟨g.exponents, g.contexts, g.sums, g.restore, g.image⟩

/-- The tracker as an abandon leaves it (R11). -/
def trackerStopped (s : State) : State :=
  s.setTracker { s.tracker with
    state := .armed, limitTimer := none, lastAbandoned := some s.tracker.openCycle, deferredOpen := false }

/-- The tracker, the timers and the sums of a window that has been abandoned (R11, entry 16). -/
def abandonedWindow (s : State) : State :=
  ((trackerStopped s).setEval { s.eval with accums := List.replicate 64 (Accum.cleared 0) }).setAsm (stopSilence s.asm)

/-- The abandon before it releases waiting work. -/
def abandonBegun (r : AbandonReason) (s : State) : State :=
  let s3 := dropBusy (raiseNotice none ((trackerStopped s).notice .windowAbandoned 0 r.code) (trackerStopped s))
  (s3.setEval { s3.eval with accums := List.replicate 64 (Accum.cleared 0) }).setAsm (stopSilence s3.asm)

theorem abandonWindow_eq (r : AbandonReason) (s : State) : abandonWindow r s = releaseAtAbandon (abandonBegun r s) := rfl

theorem replicate_cleared_fits : ∀ a ∈ List.replicate 64 (Accum.cleared 0), a.Fits := by
  intro a ha
  rw [List.eq_of_mem_replicate ha]
  exact Accum.cleared_fits 0

theorem abandonedWindow_keeps (h : s.tracker.state = .opened) : Keeps s (abandonedWindow s) where
  sound g := by
    obtain ⟨g, hr⟩ := g
    exact ⟨{
      plan := g.plan
      load := g.load
      retry := g.retry
      contexts := g.contexts
      active := g.active
      noMould := ⟨fun hn => (by cases hn), fun ha => absurd (g.noMould.mpr ha) (by rw [h]; decide)⟩
      limit := ⟨fun hn => (by cases hn), fun hn => (by cases hn)⟩
      silence := stopSilence_stopped _
      closing := ⟨fun _ => nofun, fun _ => g.stage_idle (by rw [h]; decide)⟩
      items := g.items
      held := fun _ => nofun
      busy := g.busy }, ⟨hr.plan, hr.indices⟩⟩
  legal g := ⟨g.exponents, g.contexts, replicate_cleared_fits, g.restore, g.image⟩

theorem abandonBegun_quiet (r : AbandonReason) (s : State) : Quiet (abandonedWindow s) (abandonBegun r s) := by
  have hq := (raiseNotice_quiet none ((trackerStopped s).notice .windowAbandoned 0 r.code) (trackerStopped s)).trans
    (dropBusy_quiet _)
  exact { hq with accums := rfl, silence := stopSilence_stopped _ }

theorem abandonBegun_keeps (r : AbandonReason) (h : s.tracker.state = .opened) : Keeps s (abandonBegun r s) :=
  (abandonedWindow_keeps h).trans (abandonBegun_quiet r s).keeps

end

/-! ## Contexts -/

section
variable {s : State}

/-- A context may be replaced by one that is legal for its profile. -/
theorem State.LegalContexts.setContext {p : Nat} {c' : Context} (g : s.LegalContexts)
    (hc : ∀ pl q, s.loader.plan = some pl → pl.profiles[p]? = some q → p < s.table.contexts.length → Context.Legal q c') :
    ∀ (pl : Plan) (i : Nat) (q : ProfilePlan) (c : Context), s.loader.plan = some pl → pl.profiles[i]? = some q →
      (s.table.contexts.set p c')[i]? = some c → Context.Legal q c := by
  intro pl i q c hpl hq hi
  rw [List.getElem?_set] at hi
  split at hi
  next he =>
    split at hi
    next hlt =>
      cases hi
      exact hc pl q hpl (he ▸ hq) hlt
    · cases hi
  · exact g.contexts pl i q c hpl hq hi

/-- Replacing a context keeps what the blocks' states have to do with each other. -/
theorem State.Consistent.setContext {p : Nat} {c' : Context} {b : List Word} (g : s.Consistent) :
    (s.setTable { s.table with contexts := s.table.contexts.set p c', buf := b }).Consistent :=
  { g with
    contexts := List.length_set.trans g.contexts
    active := fun i hi => by
      show i < (s.table.contexts.set p c').length
      rw [List.length_set]
      exact g.active i hi }

/-- The image that is to be committed passes the field check of its profile. -/
def State.ImageChecked (s : State) : Prop :=
  ∀ pl q, s.argProfile = some (pl, q) → imageFieldsOk q s.table.buf = true

theorem argProfile_eq_some {pl : Plan} {q : ProfilePlan} (h : s.argProfile = some (pl, q)) :
    s.loader.plan = some pl ∧ pl.profiles[s.arg 0]? = some q := by
  unfold State.argProfile at h
  split at h
  next pl' hpl =>
    obtain ⟨q', hq, he⟩ := Option.map_eq_some_iff.mp h
    cases he
    exact ⟨hpl, hq⟩
  · cases h

theorem State.LegalContexts.imageChecked {w : Work} (g : s.LegalContexts) (hw : s.mail.work = some w)
    (hp : w.phase = .checked) : s.ImageChecked := by
  intro pl q h
  obtain ⟨hpl, hq⟩ := argProfile_eq_some h
  refine g.image w pl q hw hp hpl ?_
  rwa [State.arg, hw] at hq

/-- The commit of a checked image with the completion that follows it. -/
theorem commitImage_sound (g : s.Consistent ∧ s.RingSound) : (commitImage s).Consistent ∧ (commitImage s).RingSound := by
  unfold commitImage
  split
  next q _ =>
    refine (complete_quiet _ _).keeps.sound ?_
    have hs : (s.setTable { s.table with
        contexts := s.table.contexts.set (s.arg 0) (readContext q s.table.buf), buf := [] }).Consistent ∧
        (s.setTable { s.table with
          contexts := s.table.contexts.set (s.arg 0) (readContext q s.table.buf), buf := [] }).RingSound :=
      ⟨g.1.setContext, ⟨g.2.plan, g.2.indices⟩⟩
    split
    · exact (publishActivation_quiet _ _).keeps.sound hs
    · exact hs
  · exact (complete_quiet _ s).keeps.sound g

theorem publishActivation_frame (p : Nat) (s : State) :
    (publishActivation p s).loader = s.loader ∧ (publishActivation p s).table = s.table ∧
      (publishActivation p s).eval = s.eval ∧ (publishActivation p s).tracker = s.tracker := by
  unfold publishActivation
  split <;> exact ⟨rfl, rfl, rfl, rfl⟩

/-- A completed request neither reads nor holds an image, so that nothing is asked of the image. -/
theorem complete_legal (r : Result) {t : State} (exponents : ∀ pl, t.loader.plan = some pl → ∀ q ∈ pl.profiles, q.w ≤ 8)
    (contexts : ∀ (pl : Plan) (p : Nat) (q : ProfilePlan) (c : Context), t.loader.plan = some pl →
      pl.profiles[p]? = some q → t.table.contexts[p]? = some c → Context.Legal q c)
    (sums : ∀ a ∈ t.eval.accums, a.Fits) : (complete r t).LegalContexts := by
  have done : ∀ w, (complete r t).mail.work = some w → w.phase = .done := by
    intro w hw
    obtain ⟨v, -, rfl⟩ := Option.map_eq_some_iff.mp hw
    rfl
  refine ⟨exponents, contexts, sums, fun w hw hp => ?_, fun w pl q hw hp => ?_⟩
  · rw [done w hw] at hp
    rcases hp with hp | hp <;> cases hp
  · rw [done w hw] at hp
    cases hp

theorem commitImage_legal (h : s.ImageChecked) (g : s.LegalContexts) : (commitImage s).LegalContexts := by
  unfold commitImage
  split
  next pl q hq =>
    obtain ⟨hpl, hprof⟩ := argProfile_eq_some hq
    have hctx := g.setContext (p := s.arg 0) (c' := readContext q s.table.buf) fun pl' q' hpl' hq' _ => by
      cases hpl.symm.trans hpl'
      cases hprof.symm.trans hq'
      exact readContext_legal (h pl q hq)
    split
    · obtain ⟨hl, ht, he, -⟩ := publishActivation_frame (s.arg 0) (s.setTable { s.table with
        contexts := s.table.contexts.set (s.arg 0) (readContext q s.table.buf), buf := [] })
      refine complete_legal _ ?_ ?_ ?_
      · rw [hl]; exact g.exponents
      · rw [hl, ht]; exact hctx
      · rw [he]; exact g.sums
    · exact complete_legal _ g.exponents hctx g.sums
  · exact (complete_quiet _ s).keeps.legal g

theorem commitImage_keeps (h : s.LegalContexts → s.ImageChecked) : Keeps s (commitImage s) :=
  ⟨commitImage_sound, fun g => commitImage_legal (h g) g⟩

theorem releaseAtAbandon_keeps (s : State) : Keeps s (releaseAtAbandon s) := by
  unfold releaseAtAbandon
  split
  · exact .refl s
  next w hw =>
    split
    · exact (takeSnapshot_quiet _ s).keeps.trans (settle_keeps _)
    next _ _ hp => exact (commitImage_keeps fun g => g.imageChecked hw hp).trans (settle_keeps _)
    · exact .refl s

theorem abandonWindow_keeps (r : AbandonReason) (h : s.tracker.state = .opened) : Keeps s (abandonWindow r s) :=
  (abandonBegun_keeps r h).trans (releaseAtAbandon_keeps _)

/-- A request for the words of an image is the RESTORE CONTEXT in flight. -/
theorem beginRestore_keeps (h : ∀ w, s.mail.work = some w → w.fn = .restoreContext) : Keeps s (beginRestore s) := by
  unfold beginRestore
  split
  · refine ⟨fun g => ⟨{ g.1 with }, ⟨g.2.plan, g.2.indices⟩⟩, fun g => ⟨g.exponents, g.contexts, g.sums, ?_, ?_⟩⟩
    · intro w hw _
      obtain ⟨v, hv, rfl⟩ := Option.map_eq_some_iff.mp hw
      exact h v hv
    · intro w pl q hw hp
      obtain ⟨v, -, rfl⟩ := Option.map_eq_some_iff.mp hw
      cases hp
  · exact (complete_quiet _ s).keeps

/-- An image word that arrives is kept in the buffer, whatever phase the request has. -/
theorem checkImage_keeps {q : ProfilePlan} {pl : Plan} (hq : s.argProfile = some (pl, q))
    (hread : workPhaseIs .reading s = true) : Keeps s (checkImage q s) := by
  unfold checkImage
  split
  · exact (complete_setTable_quiet _ s _ _).keeps
  · split
    · exact (complete_setTable_quiet _ s _ _).keeps
    next hok =>
      have hfields : imageFieldsOk q s.table.buf = true := by simpa using hok
      have hchecked : s.ImageChecked := by
        intro pl' q' hq'
        cases hq.symm.trans hq'
        exact hfields
      split
      · refine ⟨fun g => ⟨{ g.1 with }, ⟨g.2.plan, g.2.indices⟩⟩, fun g => ⟨g.exponents, g.contexts, g.sums, ?_, ?_⟩⟩
        · intro w hw _
          obtain ⟨v, hv, rfl⟩ := Option.map_eq_some_iff.mp hw
          refine g.restore v hv (.inl ?_)
          simpa only [workPhaseIs, hv, Option.any_some, beq_iff_eq] using hread
        · intro w pl' q' hw _ hpl hq'
          obtain ⟨v, hv, rfl⟩ := Option.map_eq_some_iff.mp hw
          refine hchecked pl' q' ?_
          simp only [State.setMail_loader, setPhase] at hpl
          rw [State.argProfile, hpl, State.arg, hv]
          exact Option.map_eq_some_iff.mpr ⟨q', hq', rfl⟩
      · exact commitImage_keeps fun _ => hchecked

/-- While the request reads, a word joins the buffer. -/
theorem bufferImage_quiet {s : State} (h : workPhaseIs .reading s = true) (b : List Word) :
    Quiet s (s.setTable { s.table with buf := b }) := by
  refine { image := fun w hw hp => ?_ }
  rw [workPhaseIs, show s.mail.work = some w from hw, Option.any_some, hp] at h
  cases h

theorem receiveImageWord_keeps (w : Word) (s : State) : Keeps s (receiveImageWord w s) := by
  unfold receiveImageWord
  split
  next hr =>
    split
    next q hq =>
      have hbuf := (bufferImage_quiet hr (s.table.buf ++ [w])).keeps
      simp only
      split
      · refine hbuf.trans (Keeps.trans ?_ (settle_keeps _))
        exact checkImage_keeps (s := s.setTable { s.table with buf := s.table.buf ++ [w] }) hq hr
      · exact hbuf
    · exact .refl s
  · exact .refl s

theorem cavity_eq_some {p c : Nat} {v : CavityCtx} (h : s.cavity p c = some v) :
    ∃ x, s.table.contexts[p]? = some x ∧ x.cavities[c]? = some v := by
  unfold State.cavity at h
  split at h
  next x hx => exact ⟨x, hx, h⟩
  · cases h

theorem setCavity_keeps {p c : Nat} {v v' : CavityCtx} (hv : s.cavity p c = some v)
    (h : ∀ e : CavityPlan, v.Legal e → v'.Legal e) : Keeps s (setCavity p c v' s) := by
  obtain ⟨x, hx, hcav⟩ := cavity_eq_some hv
  rw [setCavity, hx]
  refine ⟨fun g => ⟨g.1.setContext, ⟨g.2.plan, g.2.indices⟩⟩, fun g => ⟨g.exponents, ?_, g.sums, g.restore, g.image⟩⟩
  refine g.setContext fun pl q hpl hq _ => ?_
  have hlegal := g.contexts pl p q x hpl hq hx
  exact hlegal.setCavity fun e he => h e (hlegal.cavity he hcav)

theorem changeCavity_keeps {f : CavityCtx → CavityCtx} (h : ∀ (e : CavityPlan) (v : CavityCtx), v.Legal e → (f v).Legal e)
    (s : State) : Keeps s (changeCavity f s) := by
  unfold changeCavity
  split
  · exact (complete_quiet _ s).keeps
  next v hv =>
    have hset := setCavity_keeps hv fun e => h e v
    simp only
    split
    · exact hset.trans (complete_quiet _ _).keeps
    · exact hset.trans ((raiseNotice_quiet _ _ _).trans (complete_quiet _ _)).keeps

end

/-! ## Mould ids and step 6 -/

section
variable {s : State}

theorem enterNoMould_keeps (n : Option Nat) (ho : s.tracker.state ≠ .opened) (hc : s.tracker.state ≠ .closing) :
    Keeps s (enterNoMould n s) where
  sound g := by
    obtain ⟨g, hr⟩ := g
    have hlimit : s.tracker.limitTimer.isSome = true → False := fun h => ho (g.limit.mp h)
    exact ⟨{
      plan := g.plan
      load := g.load
      retry := g.retry
      contexts := g.contexts
      active := fun p hp => (by cases hp)
      noMould := ⟨fun _ => rfl, fun _ => rfl⟩
      limit := ⟨fun h => (hlimit h).elim, fun h => (by cases h)⟩
      silence := fun x hx hs => (g.no_silence ho x hx hs).elim
      closing := ⟨fun _ => nofun, fun _ => g.stage_idle hc⟩
      items := g.items
      held := fun h => (by cases h)
      busy := g.busy }, ⟨hr.plan, hr.indices⟩⟩
  legal g := ⟨g.exponents, g.contexts, g.sums, g.restore, g.image⟩

theorem armed_keeps {p : Nat} {pl : Plan} (n : Option Nat) (hpl : s.runningPlan = some pl) (hp : p < pl.profiles.length)
    (ho : s.tracker.state ≠ .opened) (hc : s.tracker.state ≠ .closing) :
    Keeps s (dropHeld (s.setTracker { s.tracker with active := some p, unknownNote := n, state := .armed })) where
  sound g := by
    obtain ⟨g, hr⟩ := g
    have hlimit : s.tracker.limitTimer.isSome = true → False := fun h => ho (g.limit.mp h)
    have hcount : s.contextCount = pl.profiles.length := by rw [State.contextCount, (runningPlan_eq_some hpl).2]
    exact ⟨{
      plan := g.plan
      load := g.load
      retry := g.retry
      contexts := g.contexts
      active := fun i hi => by
        cases hi
        show p < s.table.contexts.length
        rw [g.contexts, hcount]
        exact hp
      noMould := ⟨fun h => (by cases h), fun h => (by cases h)⟩
      limit := ⟨fun h => (hlimit h).elim, fun h => (by cases h)⟩
      silence := fun x hx hs => (g.no_silence ho x hx hs).elim
      closing := ⟨fun _ => nofun, fun _ => g.stage_idle hc⟩
      items := g.items
      held := fun h => (by cases h)
      busy := g.busy }, ⟨hr.plan, hr.indices⟩⟩
  legal g := ⟨g.exponents, g.contexts, g.sums, g.restore, g.image⟩

theorem activate_keeps {p : Nat} {pl : Plan} (hpl : s.runningPlan = some pl) (hp : p < pl.profiles.length)
    (ho : s.tracker.state ≠ .opened) (hc : s.tracker.state ≠ .closing) : Keeps s (activate pl p s) :=
  (armed_keeps none hpl hp ho hc).trans ((raiseNotice_quiet _ _ _).trans (publishActivation_quiet _ _)).keeps

theorem profileOf_lt {pl : Plan} {id p : Nat} (h : pl.profileOf id = some p) : p < pl.profiles.length := by
  obtain ⟨h, -⟩ := List.findIdx?_eq_some_iff_getElem.mp h
  exact h

theorem applyMould_keeps {pl : Plan} (id : Nat) (hpl : s.runningPlan = some pl) (ho : s.tracker.state ≠ .opened)
    (hc : s.tracker.state ≠ .closing) : Keeps s (applyMould pl id s) := by
  unfold applyMould
  split
  · exact (enterNoMould_keeps none ho hc).trans (publishZeros_quiet _).keeps
  · split
    next hp => exact activate_keeps hpl (profileOf_lt hp) ho hc
    · refine Keeps.trans ?_ (publishZeros_quiet _).keeps
      split
      · exact enterNoMould_keeps _ ho hc
      · exact (enterNoMould_keeps _ ho hc).trans (raiseNotice_quiet _ _ _).keeps

theorem takeSnapshot_tracker (k : SnapshotKind) (s : State) : (takeSnapshot k s).tracker = s.tracker := by
  unfold takeSnapshot
  split <;> rfl

theorem commitImage_tracker (s : State) : (commitImage s).tracker = s.tracker := by
  unfold commitImage
  split
  · simp only
    split
    · exact (publishActivation_frame _ _).2.2.2
    · rfl
  · rfl

theorem releaseAtAbandon_tracker (s : State) : (releaseAtAbandon s).tracker = s.tracker := by
  unfold releaseAtAbandon
  split
  · rfl
  · split
    · exact (settle_settled _).tracker.trans (takeSnapshot_tracker _ _)
    · exact (settle_settled _).tracker.trans (commitImage_tracker _)
    · rfl

theorem abandonWindow_state (r : AbandonReason) (s : State) : (abandonWindow r s).tracker.state = .armed := by
  rw [abandonWindow_eq, releaseAtAbandon_tracker]
  exact (abandonBegun_quiet r s).state

theorem Reacts.runningPlan {t : State} (h : Reacts s t) : t.runningPlan = s.runningPlan := by
  rw [State.runningPlan, State.runningPlan, h.run, h.plan]

theorem mouldPart_keeps {pl : Plan} (id : Nat) (hpl : s.runningPlan = some pl) : Keeps s (mouldPart pl id s) := by
  unfold mouldPart
  split
  · exact .refl s
  · split
    next hs => exact applyMould_keeps id hpl (by rw [hs]; decide) (by rw [hs]; decide)
    next hs => exact applyMould_keeps id hpl (by rw [hs]; decide) (by rw [hs]; decide)
    next hs =>
      have harmed := abandonWindow_state .mouldChange s
      exact (abandonWindow_keeps _ hs).trans (applyMould_keeps id ((abandonWindow_reacts _ s).runningPlan.trans hpl)
        (by rw [harmed]; decide) (by rw [harmed]; decide))
    · exact .refl s

theorem phasePart_keeps (pl : Plan) (w : StateWord) (s : State) : Keeps s (phasePart pl w s) := by
  unfold phasePart
  split
  · exact .refl s
  next hs =>
    unfold armedPhase
    split
    · split
      · exact .refl s
      · exact openWindow_keeps pl _ _ hs
    all_goals exact .refl s
  next hs =>
    unfold openPhase
    split
    · split
      · exact .refl s
      · exact closeWindow_keeps _ hs
    · exact closeWindow_keeps _ hs
    · exact closeWindow_keeps _ hs
    · exact closeWindow_keeps _ hs
    · exact abandonWindow_keeps _ hs
  · exact (closingPhase_quiet w s).keeps

theorem handleWord_keeps {pl : Plan} (w : StateWord) (hpl : s.runningPlan = some pl) : Keeps s (handleWord pl w s) := by
  have hlast : Quiet s (s.setTracker { s.tracker with last := some w }) := {}
  have hbegun : Quiet s (if demouldEntry w s.tracker.last = true
      then advanceMarks pl w.cycle (s.setTracker { s.tracker with last := some w })
      else s.setTracker { s.tracker with last := some w }) := by
    split
    · exact hlast.trans (advanceMarks_quiet _ _ _)
    · exact hlast
  refine hbegun.keeps.trans (Keeps.trans ?_ (clearAbandoned_quiet _ _ _).keeps)
  exact (mouldPart_keeps w.mould (hbegun.runningPlan.trans hpl)).trans (phasePart_keeps _ _ _)

theorem examineStateWord_keeps {pl : Plan} (d : WriteWord) (hpl : s.runningPlan = some pl) :
    Keeps s (examineStateWord pl d s) := by
  unfold examineStateWord
  split
  · split
    · exact (handleWord_keeps _ hpl).trans (settle_keeps _)
    · exact .refl s
  · exact .refl s

/-- Step 6 begins: the tracker leaves CLOSING, and close processing ends with it (R14). -/
theorem closed_keeps (h : s.tracker.state = .closing) :
    Keeps s ((s.setTracker { s.tracker with state := .armed }).setClosing { stage := .idle, items := [] }) where
  sound g := by
    obtain ⟨g, hr⟩ := g
    have hlimit : s.tracker.limitTimer.isSome = true → False := fun hl => absurd (g.limit.mp hl) (by rw [h]; decide)
    exact ⟨{
      plan := g.plan
      load := g.load
      retry := g.retry
      contexts := g.contexts
      active := g.active
      noMould := ⟨fun hn => (by cases hn), fun ha => absurd (g.noMould.mpr ha) (by rw [h]; decide)⟩
      limit := ⟨fun hl => (hlimit hl).elim, fun hl => (by cases hl)⟩
      silence := fun x hx hs => (g.no_silence (by rw [h]; decide) x hx hs).elim
      closing := ⟨fun _ => nofun, fun _ => rfl⟩
      items := fun hn => absurd rfl hn
      held := fun _ => nofun
      busy := g.busy }, ⟨hr.plan, hr.indices⟩⟩
  legal g := ⟨g.exponents, g.contexts, g.sums, g.restore, g.image⟩

theorem settleMould_keeps {pl : Plan} (hpl : s.runningPlan = some pl) (h : s.tracker.state = .armed) :
    Keeps s (settleMould pl s) := by
  unfold settleMould
  split
  · exact .refl s
  · split
    · exact .refl s
    · exact applyMould_keeps _ hpl (by rw [h]; decide) (by rw [h]; decide)

theorem settleOpen_keeps (pl : Plan) (s : State) : Keeps s (settleOpen pl s) := by
  have hclear : Quiet s (s.setTracker { s.tracker with deferredOpen := false }) := {}
  unfold settleOpen
  split
  next hs _ =>
    split
    · exact openWindow_keeps pl _ _ hs
    · exact hclear.keeps
  · exact hclear.keeps

theorem stepSix_keeps {pl : Plan} (hpl : s.runningPlan = some pl) (h : s.tracker.state = .closing) :
    Keeps s (stepSix pl s) :=
  (closed_keeps h).trans ((settleMould_keeps (s := (s.setTracker { s.tracker with state := .armed }).setClosing
    { stage := .idle, items := [] }) hpl rfl).trans (settleOpen_keeps _ _))

theorem finishClose_keeps (h : ∀ pl, s.runningPlan = some pl → s.tracker.state = .closing) : Keeps s (finishClose s) := by
  unfold finishClose
  split
  next pl hpl => exact stepSix_keeps hpl (h pl hpl)
  · exact .refl s

end

end Sys2Proof.Machine
end

section
/-! PROOFS. Every command keeps the blocks' states consistent and every context legal: loads, requests, closes and the port. -/

namespace Sys2Proof.Machine

/-! ## The evaluator and the report writer -/

section
variable {s : State}

theorem accumulateFrame_held (p : Plan) (w : WindowPlan) (f : Frame) (e : Evaluator) :
    (accumulateFrame p w f e).held = e.held := by
  rw [accumulateFrame]
  induction frameSamples w f generalizing e with
  | nil => rfl
  | cons x xs ih =>
    refine (ih (accumulateSample p e x)).trans ?_
    unfold accumulateSample
    split <;> rfl

theorem takeFrame_keeps (i : Nat) (b : Bool) (f : Frame) (s : State) : Keeps s (takeFrame i b f s) := by
  unfold takeFrame
  split
  next pl hpl =>
    split
    next w _ _ =>
      refine ⟨fun g => ⟨{ g.1 with held := ?_, busy := fun _ => (runningPlan_eq_some hpl).1 }, ⟨g.2.plan, g.2.indices⟩⟩,
        fun g => ⟨g.exponents, g.contexts, accumulateFrame_fits pl w f g.sums, g.restore, g.image⟩⟩
      intro h
      rw [State.setEval_eval, accumulateFrame_held] at h
      exact g.1.held h
    · exact (emptySlot_quiet _ _ s).keeps
    · exact (emptySlot_quiet _ _ s).keeps
  · exact (emptySlot_quiet _ _ s).keeps

theorem examineConsumer_keeps (d : WriteWord) (s : State) : Keeps s (examineConsumer d s) := by
  unfold examineConsumer
  split
  · exact .refl s
  next pl hpl =>
    simp only
    split
    next h =>
      obtain ⟨-, hv, -⟩ := h
      refine ⟨fun g => ⟨{ g.1 with }, ⟨g.2.plan, fun r hr => ?_⟩⟩,
        fun g => ⟨g.exponents, g.contexts, g.sums, g.restore, g.image⟩⟩
      have hring := (g.2.plan pl (runningPlan_eq_some hpl).2).symm.trans hr
      cases hring
      exact ⟨(g.2.indices _ hr).1, hv⟩
    · exact .refl s

/-! ## Loads -/

theorem replicate_start_stopped {p : Prop} :
    ∀ x ∈ List.replicate 4 Assembler.start, x.silenceTimer.isSome = true → p := by
  intro x hx hs
  rw [List.eq_of_mem_replicate hx] at hs
  cases hs

/-- With the start values of a load only the notice indices remain of what the invariants ask. -/
theorem beginLoad_keeps (s : State) : Keeps s (beginLoad s) where
  sound g := by
    obtain ⟨-, hr⟩ := g
    exact ⟨{
      plan := ⟨fun h => (by cases h), fun h => (by cases h)⟩
      load := fun _ => rfl
      retry := fun h => (by cases h)
      contexts := rfl
      active := fun p hp => (by cases hp)
      noMould := ⟨fun _ => rfl, fun _ => rfl⟩
      limit := ⟨fun h => (by cases h), fun h => (by cases h)⟩
      silence := replicate_start_stopped
      closing := ⟨fun _ => nofun, fun _ => rfl⟩
      items := fun h => absurd rfl h
      held := fun h => (by cases h)
      busy := fun h => (by cases h) }, ⟨fun pl hpl => (by cases hpl), hr.indices⟩⟩
  legal g := ⟨fun pl hpl => (by cases hpl), fun pl p q c hpl => (by cases hpl), replicate_cleared_fits, g.restore,
    fun w pl q _ _ hpl => (by cases hpl)⟩

theorem failLoad_keeps (f : PlanFault) (h : s.Consistent → s.loader.run = .loading) : Keeps s (failLoad f s) := by
  have hfailed : Keeps s (s.setLoader
      { s.loader with run := .noPlan, fault := f, retry := some 0, phase := .idle, buf := [], items := [] }) := by
    refine ⟨fun g => ?_, fun g => ⟨g.exponents, g.contexts, g.sums, g.restore, g.image⟩⟩
    obtain ⟨g, hr⟩ := g
    have hrun := h g
    have hplan : s.loader.plan.isSome = true → False := fun hp => by
      have := hrun.symm.trans (g.plan.mpr hp)
      cases this
    have hbusy : s.eval.busy.isSome = true → False := fun hb => by
      have := hrun.symm.trans (g.busy hb)
      cases this
    exact ⟨{ g with
      plan := ⟨fun hn => (by cases hn), fun hp => (hplan hp).elim⟩
      load := fun hn => absurd rfl hn
      retry := fun _ => rfl
      busy := fun hb => (hbusy hb).elim }, ⟨hr.plan, hr.indices⟩⟩
  unfold failLoad
  simp only
  split
  · exact hfailed.trans (complete_quiet _ _).keeps
  · exact hfailed

theorem afterLoad_work {m : Mailbox} {w : Work} (h : m.afterLoad.work = some w) :
    m.work = some w ∧ w.fn = .reloadPlan := by
  unfold Mailbox.afterLoad at h
  split at h
  next hr =>
    refine ⟨h, ?_⟩
    rw [Mailbox.holdsReload, Bool.and_eq_true, h, Option.any_some] at hr
    exact eq_of_beq hr.2
  · cases h

/-- The start values of an accepted plan, on the state in which a SET OVERLAY has had its effect (R149). -/
def accepted (pl : Plan) (s0 : State) : State :=
  let s1 := s0.setLoader { s0.loader with
    run := .running, plan := some pl, fault := .none, retry := none, phase := .idle, buf := [], items := [] }
  let s2 := (s1.setTable { s1.table with contexts := pl.profiles.map freshContext }).setTracker .start
  let s3 := (s2.setAsm (List.replicate 4 .start)).setEval { Evaluator.start s2.eval.frames with dump := s2.eval.dump }
  let s4 := s3.setOut { s3.out with stopLatch := false, stopHigh := some pl.stopHigh, marks := [] }
  (s4.setReport (acceptReport pl s4.base s4.report)).setMail s4.mail.afterLoad

theorem acceptValues_eq (pl : Plan) (s : State) : acceptValues pl s = accepted pl (carryOverlay s) := rfl

/-- Close processing stands idle while a load is in flight: the tracker is in NO MOULD. -/
theorem State.Consistent.loading_idle (g : s.Consistent) (h : s.loader.run = .loading) :
    s.closing.stage = .idle ∧ s.closing.items = [] := by
  have hplan : s.loader.plan = none := by
    cases hp : s.loader.plan with
    | none => rfl
    | some pl =>
      have := h.symm.trans (g.plan.mpr (by rw [hp]; rfl))
      cases this
  have hcontexts : s.table.contexts.length = 0 := by rw [g.contexts, State.contextCount, hplan]
  have hactive : s.tracker.active = none := by
    cases ha : s.tracker.active with
    | none => rfl
    | some p =>
      have := g.active p ha
      omega
  have hstate : s.tracker.state ≠ .closing := by
    rw [g.noMould.mpr hactive]
    decide
  exact ⟨g.stage_idle hstate, g.no_items hstate⟩

theorem accepted_sound {pl : Plan} (hring : 0 < pl.ringSize) (h : s.loader.run = .loading) (g : s.Consistent) :
    (accepted pl s).Consistent ∧ (accepted pl s).RingSound := by
  obtain ⟨hstage, hitems⟩ := g.loading_idle h
  exact ⟨{
    plan := ⟨fun _ => rfl, fun _ => rfl⟩
    load := fun hn => absurd rfl hn
    retry := fun hn => (by cases hn)
    contexts := List.length_map _
    active := fun p hp => (by cases hp)
    noMould := ⟨fun _ => rfl, fun _ => rfl⟩
    limit := ⟨fun hn => (by cases hn), fun hn => (by cases hn)⟩
    silence := replicate_start_stopped
    closing := ⟨fun _ => nofun, fun _ => hstage⟩
    items := fun hn => absurd hitems hn
    held := fun hn => (by cases hn)
    busy := fun hn => (by cases hn) },
    ⟨fun pl' hpl => by cases hpl; rfl, fun r hr => by cases hr; exact ⟨hring, hring⟩⟩⟩

theorem accepted_legal {pl : Plan} (hw : ∀ q ∈ pl.profiles, q.w ≤ 8) (g : s.LegalContexts) :
    (accepted pl s).LegalContexts := by
  refine ⟨fun pl' hpl => ?_, fun pl' p q c hpl hq hc => ?_, replicate_cleared_fits, fun w hwork hp => ?_,
    fun w pl' q hwork hp => ?_⟩
  · cases hpl
    exact hw
  · cases hpl
    rw [show (accepted pl s).table.contexts = pl.profiles.map freshContext from rfl, List.getElem?_map, hq] at hc
    cases hc
    exact freshContext_legal q
  · exact g.restore w (afterLoad_work hwork).1 hp
  · obtain ⟨hwork', hfn⟩ := afterLoad_work hwork
    rw [g.restore w hwork' (.inr hp)] at hfn
    cases hfn

theorem acceptPlan_keeps {pl : Plan} (n : Nat) (h : s.Consistent → s.loader.run = .loading)
    (hw : ∀ q ∈ pl.profiles, q.w ≤ 8) (hring : 0 < pl.ringSize) : Keeps s (acceptPlan pl n s) := by
  have hoverlay := carryOverlay_quiet s
  have haccepted : Keeps s (acceptValues pl s) := by
    rw [acceptValues_eq]
    exact ⟨fun g => accepted_sound hring (hoverlay.run.trans (h g.1)) (hoverlay.consistent g.1),
      fun g => accepted_legal hw (hoverlay.legalContexts g)⟩
  unfold acceptPlan
  simp only
  split
  · exact haccepted.trans ((raiseNotice_quiet _ _ _).trans (complete_quiet _ _)).keeps
  · exact haccepted.trans (raiseNotice_quiet _ _ _).keeps

theorem finishLoad_keeps (len : Nat) (h : s.Consistent → s.loader.run = .loading) : Keeps s (finishLoad len s) := by
  unfold finishLoad
  split
  next hj =>
    obtain ⟨hw, hring⟩ := judgePlan_bounds hj
    exact acceptPlan_keeps _ h hw hring
  · exact failLoad_keeps _ h

theorem finishHeader_keeps (h : s.Consistent → s.loader.run = .loading) : Keeps s (finishHeader s) := by
  unfold finishHeader
  split
  · simp only
    split
    · exact finishLoad_keeps _ h
    · exact ⟨fun g => ⟨{ g.1 with load := fun _ => h g.1 }, ⟨g.2.plan, g.2.indices⟩⟩,
        fun g => ⟨g.exponents, g.contexts, g.sums, g.restore, g.image⟩⟩
  · exact failLoad_keeps _ h

theorem receivePlanWord_keeps (w : Word) (s : State) : Keeps s (receivePlanWord w s) := by
  have hword : Quiet s (s.setLoader { s.loader with buf := s.loader.buf ++ [w] }) := {}
  unfold receivePlanWord
  simp only
  split
  · exact .refl s
  next hp =>
    split
    · refine hword.keeps.trans (Keeps.trans ?_ (settle_keeps _))
      exact finishHeader_keeps fun g => g.load (by rw [hword.phase, hp]; nofun)
    · exact hword.keeps
  next hp =>
    split
    · refine hword.keeps.trans (Keeps.trans ?_ (settle_keeps _))
      exact finishLoad_keeps _ fun g => g.load (by rw [hword.phase, hp]; nofun)
    · exact hword.keeps

theorem startReload_keeps (s : State) : Keeps s (startReload s) :=
  (setPhase_quiet (by decide) (by decide) s).keeps.trans (beginLoad_keeps _)

theorem reloadPlan_keeps (s : State) : Keeps s (reloadPlan s) := by
  unfold reloadPlan
  split
  next _ ho => exact (abandonWindow_keeps _ ho).trans (startReload_keeps _)
  · exact (setPhase_quiet (by decide) (by decide) s).keeps
  all_goals exact startReload_keeps s

/-! ## Requests -/

theorem doWork_keeps (k : SnapshotKind) {f : Fn} (h : ∀ w, s.mail.work = some w → w.fn = f) : Keeps s (doWork k f s) := by
  cases f with
  | releaseCavity => exact changeCavity_keeps (fun _ _ => releaseCavity_legal _) s
  | excludeCavity => exact changeCavity_keeps (fun _ _ => excludeCavity_legal) s
  | includeCavity => exact changeCavity_keeps (fun _ _ => includeCavity_legal) s
  | setPathEnables => exact changeCavity_keeps (fun _ _ => setEnables_legal _) s
  | acknowledgeStop => exact (doAcknowledge_quiet s).keeps
  | saveContext => exact (takeSnapshot_quiet k s).keeps
  | restoreContext => exact beginRestore_keeps h
  | reloadPlan => exact reloadPlan_keeps s
  | setOverlay => exact (doOverlay_quiet s).keeps
  | dumpChannels => exact (doDump_quiet s).keeps

theorem handedFn_eq_some {f : Fn} (h : handedFn s = some f) :
    ∃ w, s.mail.work = some w ∧ w.phase = .handed ∧ w.fn = f := by
  unfold handedFn at h
  split at h
  next w hw =>
    split at h
    next hp =>
      cases h
      exact ⟨w, hw, hp, rfl⟩
    · cases h
  · cases h

theorem ownerWork_keeps {f : Fn} (h : handedFn s = some f) : Keeps s (settle (doWork .atOnce f s)) := by
  obtain ⟨w, hw, -, hf⟩ := handedFn_eq_some h
  refine (doWork_keeps .atOnce fun v hv => ?_).trans (settle_keeps _)
  cases hw.symm.trans hv
  exact hf

theorem carryOut_keeps (s : State) : Keeps s (carryOut s) := by
  unfold carryOut
  split
  next hf => exact ownerWork_keeps hf
  · exact .refl s

theorem releaseAtPublish_keeps (s : State) : Keeps s (releaseAtPublish s) := by
  unfold releaseAtPublish
  split
  · exact .refl s
  next w hw =>
    split
    · exact startReload_keeps s
    · refine (doWork_keeps .atPublish fun v hv => ?_).trans (settle_keeps _)
      cases hw.symm.trans hv
      rfl
    next hp => exact (commitImage_keeps fun g => g.imageChecked hw hp).trans (settle_keeps _)
    · exact .refl s

/-! ## Where the tracker stands when a close goes on -/

theorem changeCavity_tracker (f : CavityCtx → CavityCtx) (s : State) : (changeCavity f s).tracker = s.tracker := by
  have hset : ∀ p c v, (setCavity p c v s).tracker = s.tracker := by
    intro p c v
    unfold setCavity
    split <;> rfl
  unfold changeCavity
  split
  · rfl
  · simp only
    split
    · exact hset _ _ _
    · exact (raiseNotice_settled _ _ _).tracker.trans (hset _ _ _)

theorem beginRestore_tracker (s : State) : (beginRestore s).tracker = s.tracker := by
  unfold beginRestore
  split <;> rfl

theorem doDump_tracker (s : State) : (doDump s).tracker = s.tracker := by
  unfold doDump
  split <;> rfl

/-- No request but RELOAD PLAN touches the tracker. -/
theorem doWork_tracker (k : SnapshotKind) {f : Fn} (h : f ≠ .reloadPlan) (s : State) :
    (doWork k f s).tracker = s.tracker := by
  cases f with
  | releaseCavity => exact changeCavity_tracker _ s
  | excludeCavity => exact changeCavity_tracker _ s
  | includeCavity => exact changeCavity_tracker _ s
  | setPathEnables => exact changeCavity_tracker _ s
  | acknowledgeStop => rfl
  | saveContext => exact takeSnapshot_tracker k s
  | restoreContext => exact beginRestore_tracker s
  | reloadPlan => exact absurd rfl h
  | setOverlay => rfl
  | dumpChannels => exact doDump_tracker s

theorem startReload_runningPlan (s : State) : (startReload s).runningPlan = none := rfl

/-- While CLOSING a RELOAD PLAN waits, or begins a load when no plan is held. -/
theorem reloadPlan_of_closing (h : s.tracker.state = .closing) :
    (reloadPlan s).tracker = s.tracker ∨ (reloadPlan s).runningPlan = none := by
  unfold reloadPlan
  split
  next _ ho => exact absurd (h.symm.trans ho) (by decide)
  · exact .inl rfl
  all_goals exact .inr rfl

theorem settle_runningPlan (s : State) : (settle s).runningPlan = s.runningPlan := (settle_reacts s).runningPlan

/-- A request that is carried out while CLOSING leaves the tracker as it is, or leaves no plan that runs. -/
theorem carryOut_of_closing (h : s.tracker.state = .closing) :
    (carryOut s).tracker = s.tracker ∨ (carryOut s).runningPlan = none := by
  unfold carryOut
  split
  next f _ =>
    rw [(settle_settled _).tracker, settle_runningPlan]
    by_cases hf : f = .reloadPlan
    · rw [hf]
      exact reloadPlan_of_closing h
    · exact .inl (doWork_tracker _ hf s)
  · exact .inl rfl

theorem releaseAtPublish_tracker (s : State) :
    (releaseAtPublish s).tracker = s.tracker ∨ (releaseAtPublish s).runningPlan = none := by
  unfold releaseAtPublish
  split
  · exact .inl rfl
  · split
    · exact .inr rfl
    next hf => exact .inl ((settle_settled _).tracker.trans (doWork_tracker _ hf s))
    · exact .inl ((settle_settled _).tracker.trans (commitImage_tracker s))
    · exact .inl rfl

/-! ## The close -/

/-- What a close has to work on: the plan that runs, the active profile and its context. -/
theorem closeInput_eq_some {x : CloseInput} (h : closeInput s = some x) :
    s.runningPlan = some x.plan ∧ s.tracker.active = some x.number ∧ x.plan.profiles[x.number]? = some x.profile ∧
      s.table.contexts[x.number]? = some x.context := by
  unfold closeInput at h
  split at h
  next hpl hp =>
    split at h
    next hq hc =>
      cases h
      exact ⟨hpl, hp, hq, hc⟩
    · cases h
    · cases h
  · cases h
  · cases h

theorem carryOut_closing {x : CloseInput} (h : s.tracker.state = .closing) (hx : closeInput (carryOut s) = some x) :
    (carryOut s).tracker.state = .closing := by
  rcases carryOut_of_closing h with ht | hn
  · rw [ht, h]
  · have := hn.symm.trans (closeInput_eq_some hx).1
    cases this

theorem closeDue_closing (h : closeDue s = true) : s.tracker.state = .closing := by
  simp only [closeDue, Bool.and_eq_true, beq_iff_eq] at h
  exact h.1.1

/-- What a close changes of what the invariants speak of: the active context, the sums, the held set, and its own stage. -/
theorem closeSteps_frame (x : CloseInput) (s : State) :
    (closeSteps x s).loader = s.loader ∧ (closeSteps x s).tracker = s.tracker ∧ (closeSteps x s).asm = s.asm ∧
      (closeSteps x s).closing.stage = .placing ∧ (closeSteps x s).eval.busy = s.eval.busy ∧
      (closeSteps x s).table.contexts.length = s.table.contexts.length ∧
      (closeSteps x s).report.ring = s.report.ring ∧ (closeSteps x s).report.producer = s.report.producer ∧
      (closeSteps x s).report.consumer = s.report.consumer := by
  simp [closeSteps, stepFour, stepThree, stepTwo, stepOne]

theorem closeSteps_keeps {x : CloseInput} (hx : closeInput s = some x) (h : s.tracker.state = .closing) :
    Keeps s (closeSteps x s) := by
  obtain ⟨hpl, -, hq, hc⟩ := closeInput_eq_some hx
  obtain ⟨-, hplan⟩ := runningPlan_eq_some hpl
  refine ⟨fun g => ?_, fun g => ?_⟩
  · obtain ⟨g, hr⟩ := g
    have hstate : s.tracker.state ≠ .noMould := by
      rw [h]
      decide
    obtain ⟨hloader, htracker, hasm, hstage, hbusy, hlen, hring, hproducer, hconsumer⟩ := closeSteps_frame x s
    refine ⟨?_, ?_, ?_⟩
    · constructor <;> simp only [hloader, htracker, hasm, hstage, hbusy, hlen, State.contextCount, h, ne_eq,
        not_true_eq_false, reduceCtorEq, not_false_eq_true, implies_true]
      case plan => exact g.plan
      case load => exact g.load
      case retry => exact g.retry
      case contexts => exact g.contexts
      case active => exact g.active
      case noMould =>
        rw [← g.noMould]
        exact iff_of_false nofun hstate
      case limit => exact iff_of_false (fun hl => absurd (g.limit.mp hl) (by rw [h]; decide)) nofun
      case silence => exact fun x hx hs => absurd (g.silence x hx hs) (by rw [h]; decide)
      case busy => exact g.busy
    · intro pl hpl
      rw [hring]
      exact hr.plan pl (hloader ▸ hpl)
    · intro r hr'
      rw [hproducer, hconsumer]
      exact hr.indices r (hring ▸ hr')
  · have hfits : ∀ r ∈ closeChannels s x.plan, r.acc.Fits := fun r => closeChannels_fits g.sums
    have hw := g.exponents _ hplan x.profile (List.mem_of_getElem? hq)
    have hlegal := stepTwoContext_legal hw hfits (g.contexts _ _ _ _ hplan hq hc)
    refine ⟨g.exponents, ?_, finalAccums_fits hfits g.sums, g.restore, g.image⟩
    have hset := g.setContext (p := x.number)
      (c' := stepTwoContext (closeChannels s x.plan) x (closeCavities (closeChannels s x.plan) x.profile x.context))
      fun pl q hpl' hq' _ => by
        cases hplan.symm.trans hpl'
        cases hq.symm.trans hq'
        exact hlegal
    intro pl p q c hpl' hq' hc'
    refine hset pl p q c hpl' hq' ?_
    rwa [show (closeSteps x s).table.contexts = (s.table.contexts.set x.number (stepOneContext (closeChannels s x.plan)
        x.context)).set x.number (stepTwoContext (closeChannels s x.plan) x
          (closeCavities (closeChannels s x.plan) x.profile x.context)) from rfl, List.set_set] at hc'

theorem publishDue_of (h : publishDue s = true) : s.tracker.state = .closing ∧ s.closing.items = [] := by
  simp only [publishDue, Bool.and_eq_true, beq_iff_eq, List.isEmpty_iff] at h
  exact ⟨h.1.1.1, h.1.2⟩

theorem publishWaiting_keeps (h : publishDue s = true) :
    Keeps s ((swapBanks s).setClosing { (swapBanks s).closing with stage := .published }) := by
  obtain ⟨hstate, hitems⟩ := publishDue_of h
  exact ⟨fun g => ⟨{ g.1 with
      closing := ⟨fun hn => (by cases hn), fun hn => absurd hstate hn⟩
      items := fun hn => absurd hitems hn }, ⟨g.2.plan, g.2.indices⟩⟩,
    fun g => ⟨g.exponents, g.contexts, g.sums, g.restore, g.image⟩⟩

theorem publish_keeps (h : publishDue s = true) : Keeps s (settle (finishClose (swapBanks s))) := by
  have hswap : Quiet s (swapBanks s) := {}
  exact hswap.keeps.trans ((finishClose_keeps (s := swapBanks s) fun _ _ => (publishDue_of h).1).trans (settle_keeps _))

theorem waitingWorkReleased_keeps (h : releaseDue s = true) : Keeps s (settle (finishClose (releaseAtPublish s))) := by
  simp only [releaseDue, Bool.and_eq_true, beq_iff_eq] at h
  refine (releaseAtPublish_keeps s).trans ((finishClose_keeps fun pl hpl => ?_).trans (settle_keeps _))
  rcases releaseAtPublish_tracker s with ht | hn
  · rw [ht, h.1]
  · have := hn.symm.trans hpl
    cases this

/-! ## The port and RESET -/

theorem snoopWord_keeps (s : State) (x : Nat × WriteWord) : Keeps s (snoopWord s x) := by
  unfold snoopWord
  split
  · exact (examineMailWord_quiet _ _ s).keeps
  · split
    · exact examineConsumer_keeps _ s
    · split
      · exact .refl s
      next hpl =>
        split
        · exact examineStateWord_keeps _ hpl
        · split
          · exact (examineRingWord_quiet _ _ _ _ s).keeps
          · exact .refl s

theorem snoop_keeps (xs : List (Nat × WriteWord)) (s : State) : Keeps s (xs.foldl snoopWord s) := by
  induction xs generalizing s with
  | nil => exact .refl s
  | cons x xs ih => exact (snoopWord_keeps s x).trans (ih _)

theorem takeTxn_keeps (t : Txn) (s : State) : Keeps s (takeTxn t s) := by
  cases t with
  | write w =>
    have hforward : Quiet s (mergeAndForward w s) := {}
    exact hforward.keeps.trans (snoop_keeps _ _)
  | read r => exact (takeRead_quiet r s).keeps

theorem arrive_keeps (t : Txn) (s : State) : Keeps s (arrive t s) := by
  have hhold : Quiet s (s.setPath { s.path with held := s.path.held ++ [t] }) := {}
  unfold arrive
  split
  · exact (forwardDirect_quiet s t).keeps
  · split
    · exact hhold.keeps
    · exact takeTxn_keeps t s

theorem takeHeld_keeps (ts : List Txn) (s : State) : Keeps s (takeHeld ts s) := by
  have hhold : ∀ (u : State) (l : List Txn), Quiet u (u.setPath { u.path with held := l }) := fun _ _ => {}
  induction ts generalizing s with
  | nil => exact (hhold s []).keeps
  | cons t ts ih =>
    unfold takeHeld
    split
    · exact (hhold s _).keeps
    · exact (takeTxn_keeps t s).trans (ih _)

theorem performPost_keeps (s : State) : Keeps s (performPost s) := by
  unfold performPost
  split
  next a w o q _ =>
    have hpop : Quiet s ((popEntry q s).setMem (writeWord s.mem a w)) := {}
    exact hpop.keeps.trans (takeHeld_keeps _ _)
  · exact .refl s
  · exact .refl s

theorem deliver_keeps (d : Dest) (w : Word) (s : State) : Keeps s (deliver d w s) := by
  cases d with
  | planLoader => exact receivePlanWord_keeps w s
  | contextTable => exact receiveImageWord_keeps w s
  | dropped => exact .refl s

theorem performFetch_keeps (s : State) : Keeps s (performFetch s) := by
  unfold performFetch
  split
  next a d q _ =>
    have hpop : Quiet s (popEntry q s) := {}
    exact hpop.keeps.trans ((deliver_keeps _ _ _).trans (takeHeld_keeps _ _))
  · exact .refl s
  · exact .refl s

/-- The start values satisfy what the invariants ask. -/
theorem blank_sound (m : List Host.Cell) (reads : List Reply) (pending : List Instr) :
    (State.blank m reads pending).Consistent ∧ (State.blank m reads pending).RingSound :=
  ⟨{
    plan := ⟨fun h => (by cases h), fun h => (by cases h)⟩
    load := fun h => absurd rfl h
    retry := fun h => (by cases h)
    contexts := rfl
    active := fun p hp => (by cases hp)
    noMould := ⟨fun _ => rfl, fun _ => rfl⟩
    limit := ⟨fun h => (by cases h), fun h => (by cases h)⟩
    silence := replicate_start_stopped
    closing := ⟨fun _ => nofun, fun _ => rfl⟩
    items := fun h => absurd rfl h
    held := fun h => (by cases h)
    busy := fun h => (by cases h) }, ⟨fun pl hpl => (by cases hpl), fun r hr => (by cases hr)⟩⟩

theorem blank_legal (m : List Host.Cell) (reads : List Reply) (pending : List Instr) :
    (State.blank m reads pending).LegalContexts :=
  ⟨fun pl hpl => (by cases hpl), fun pl p q c hpl => (by cases hpl), replicate_cleared_fits, fun w hw => (by cases hw),
    fun w pl q hw => (by cases hw)⟩

theorem releaseReset_keeps (a1 a0 : Bool) (s : State) : Keeps s (releaseReset a1 a0 s) := by
  refine Keeps.trans (t := ((State.blank s.mem s.path.reads s.pending).setResetLow false).setAnchor
    (BitVec.ofBool a1 ++ BitVec.ofBool a0)) ?_ ((beginLoad_keeps _).trans (settle_keeps _))
  have hquiet : Quiet (State.blank s.mem s.path.reads s.pending)
      (((State.blank s.mem s.path.reads s.pending).setResetLow false).setAnchor
        (BitVec.ofBool a1 ++ BitVec.ofBool a0)) := {}
  exact ⟨fun _ => hquiet.keeps.sound (blank_sound _ _ _), fun _ => hquiet.keeps.legal (blank_legal _ _ _)⟩

/-! ## Every command -/

theorem effect_keeps {c : Instr} {t : State} (h : Effect s c t) : Keeps s t := by
  cases h with
  | resetAsserted b => exact ⟨fun _ => blank_sound _ _ _, fun _ => blank_legal _ _ _⟩
  | resetReleased a1 a0 => exact releaseReset_keeps a1 a0 s
  | transaction c t => exact arrive_keeps t s
  | windowLimitExpiry hl =>
    have ho : s.tracker.state = .opened := by
      unfold limitReached at hl
      split at hl
      · simp only [State.isOpen, Bool.and_eq_true, beq_iff_eq] at hl
        exact hl.1
      · cases hl
      · cases hl
    exact (abandonWindow_keeps _ ho).trans (settle_keeps _)
  | silenceExpiry w => exact (expireSilence_quiet w.val s).keeps
  | frameTaken x => exact takeFrame_keeps _ _ _ s
  | frameFinished => exact (dropBusy_quiet s).keeps
  | channelClose x hd hx =>
    exact (carryOut_keeps s).trans ((closeSteps_keeps hx (carryOut_closing (closeDue_closing hd) hx)).trans (settle_keeps _))
  | channelCloseWithoutInput => exact carryOut_keeps s
  | publishWaiting hd => exact publishWaiting_keeps hd
  | publish hd => exact publish_keeps hd
  | waitingWorkReleased hd => exact waitingWorkReleased_keeps hd
  | markPulseExpiry =>
    have hpulse : Quiet s (s.setOut { s.out with pulse := none }) := {}
    exact hpulse.keeps
  | owner c f _ _ hf => exact ownerWork_keeps hf
  | postPerformed => exact performPost_keeps s
  | fetchPerformed => exact performFetch_keeps s
  | queueRoomPlacement p => exact (placeNext_quietly p s).keeps
  | retryTimerExpiry => exact (beginLoad_keeps s).trans (settle_keeps _)
  | lineTick => exact (tick_quiet s).keeps

end

theorem step_keeps {s t : State} (h : step s = .next t) : Keeps s t := by
  have hpending : ∀ cs, Quiet s (s.setPending cs) := fun _ => {}
  obtain rfl | ⟨c, cs, -, rfl | heffect⟩ := step_cases h
  · exact .refl t
  · exact (hpending cs).keeps
  · exact (hpending cs).keeps.trans (effect_keeps heffect)

/-- Settles O57. -/
theorem stepKeepsConsistency : Obligations.StepKeepsConsistency :=
  fun _ _ h hc hr => (step_keeps h).sound ⟨hc, hr⟩

/-- Settles O58. -/
theorem stepKeepsLegal : Obligations.StepKeepsLegal := fun _ _ h => (step_keeps h).legal

/-- Settles O59: the state after reset is the start values with the four header FETCHes in the queue. -/
theorem resetSound : Obligations.ResetSound := by
  have hsound := blank_sound [] [] []
  have hlegal := blank_legal [] [] []
  have hbounded := blank_bounded (m := []) [] [] rfl
  refine ⟨{ hbounded with queue := by decide }, ⟨rfl, rfl, rfl, rfl⟩, { hsound.1 with load := fun _ => rfl },
    ⟨hsound.2.plan, hsound.2.indices⟩, ?_⟩
  exact ⟨hlegal.exponents, hlegal.contexts, hlegal.sums, hlegal.restore, hlegal.image⟩

end Sys2Proof.Machine
end

section
/-! PROOFS. Memory and the stop latch over every command: what changes them (O35, O60). -/

namespace Sys2Proof.Machine

/-! ## Operations that leave memory alone and set no latch -/

structure Calm (s t : State) : Prop where
  mem : t.mem = s.mem := by rfl
  latch : t.out.stopLatch = true → s.out.stopLatch = true := by exact id

theorem Calm.trans {s t u : State} (h : Calm s t) (g : Calm t u) : Calm s u :=
  ⟨g.mem.trans h.mem, h.latch ∘ g.latch⟩

theorem Reacts.calm {s t : State} (h : Reacts s t) : Calm s t := ⟨h.mem, fun hl => h.stopLatch ▸ hl⟩

theorem settle_calm (s : State) : Calm s (settle s) := (settle_reacts s).calm

theorem complete_calm (r : Result) (s : State) : Calm s (complete r s) := (complete_reacts r s).calm

theorem changeCavity_calm (f : CavityCtx → CavityCtx) (s : State) : Calm s (changeCavity f s) := by
  have hset : ∀ p c v, Calm s (setCavity p c v s) := by
    intro p c v
    unfold setCavity
    split <;> exact {}
  unfold changeCavity
  split
  · exact complete_calm _ s
  · simp only
    split
    · exact (hset _ _ _).trans (complete_calm _ _)
    · exact (hset _ _ _).trans ((raiseNotice_reacts _ _ _).calm.trans (complete_calm _ _))

theorem beginRestore_calm (s : State) : Calm s (beginRestore s) := by
  unfold beginRestore
  split <;> exact {}

theorem doDump_calm (s : State) : Calm s (doDump s) := by
  unfold doDump
  split <;> exact {}

theorem beginLoad_calm (s : State) : Calm s (beginLoad s) := {}

theorem startReload_calm (s : State) : Calm s (startReload s) :=
  Calm.trans (t := setPhase .loading s) {} (beginLoad_calm _)

theorem reloadPlan_calm (s : State) : Calm s (reloadPlan s) := by
  unfold reloadPlan
  split
  · exact (abandonWindow_reacts _ s).calm.trans (startReload_calm _)
  · exact (setPhase_reacts _ s).calm
  all_goals exact startReload_calm s

theorem doOverlay_calm (s : State) : Calm s (doOverlay s) := {}

theorem doWork_calm (k : SnapshotKind) (f : Fn) (s : State) : Calm s (doWork k f s) := by
  cases f with
  | releaseCavity => exact changeCavity_calm _ s
  | excludeCavity => exact changeCavity_calm _ s
  | includeCavity => exact changeCavity_calm _ s
  | setPathEnables => exact changeCavity_calm _ s
  | acknowledgeStop => exact { latch := fun h => by cases h }
  | saveContext => exact (takeSnapshot_reacts k s).calm
  | restoreContext => exact beginRestore_calm s
  | reloadPlan => exact reloadPlan_calm s
  | setOverlay => exact doOverlay_calm s
  | dumpChannels => exact doDump_calm s

theorem carryOut_calm (s : State) : Calm s (carryOut s) := by
  unfold carryOut
  split
  · exact (doWork_calm _ _ s).trans (settle_calm _)
  · exact {}

theorem releaseAtPublish_calm (s : State) : Calm s (releaseAtPublish s) := by
  unfold releaseAtPublish
  split
  · exact {}
  · split
    · exact startReload_calm s
    · exact (doWork_calm _ _ s).trans (settle_calm _)
    · exact (commitImage_reacts s).calm.trans (settle_calm _)
    · exact {}

theorem finishClose_calm (s : State) : Calm s (finishClose s) := by
  unfold finishClose
  split
  · exact (stepSix_reacts _ s).calm
  · exact {}

/-! ### Loads -/

theorem failLoad_calm (f : PlanFault) (s : State) : Calm s (failLoad f s) := by
  unfold failLoad
  simp only
  split <;> exact {}

theorem carryOverlay_calm (s : State) : Calm s (carryOverlay s) := by
  obtain h | ⟨-, -, -, -, h⟩ := carryOverlay_cases s <;> rw [h]
  · exact {}
  · exact doOverlay_calm s

theorem acceptValues_calm (pl : Plan) (s : State) : Calm s (acceptValues pl s) := by
  have haccepted : Calm (carryOverlay s) (accepted pl (carryOverlay s)) :=
    { mem := by simp [accepted], latch := fun h => by cases h }
  rw [acceptValues_eq]
  exact (carryOverlay_calm s).trans haccepted

theorem acceptPlan_calm (pl : Plan) (n : Nat) (s : State) : Calm s (acceptPlan pl n s) := by
  have hraised := (acceptValues_calm pl s).trans (raiseNotice_reacts none
    { kind := .planLoaded, profile := none, subject := pl.serial, cycle := 0, detail := n } _).calm
  unfold acceptPlan
  simp only
  split
  · exact hraised.trans (complete_calm _ _)
  · exact hraised

theorem finishLoad_calm (len : Nat) (s : State) : Calm s (finishLoad len s) := by
  unfold finishLoad
  split
  · exact acceptPlan_calm _ _ s
  · exact failLoad_calm _ s

theorem finishHeader_calm (s : State) : Calm s (finishHeader s) := by
  unfold finishHeader
  split
  · simp only
    split
    · exact finishLoad_calm _ s
    · exact {}
  · exact failLoad_calm _ s

theorem receivePlanWord_calm (w : Word) (s : State) : Calm s (receivePlanWord w s) := by
  have hword : Calm s (s.setLoader { s.loader with buf := s.loader.buf ++ [w] }) := {}
  unfold receivePlanWord
  simp only
  split
  · exact {}
  · split
    · exact hword.trans ((finishHeader_calm _).trans (settle_calm _))
    · exact hword
  · split
    · exact hword.trans ((finishLoad_calm _ _).trans (settle_calm _))
    · exact hword

theorem checkImage_calm (q : ProfilePlan) (s : State) : Calm s (checkImage q s) := by
  unfold checkImage
  split
  · exact {}
  · split
    · exact {}
    · split
      · exact {}
      · exact (commitImage_reacts s).calm

theorem receiveImageWord_calm (w : Word) (s : State) : Calm s (receiveImageWord w s) := by
  unfold receiveImageWord
  split
  · split
    next q _ =>
      have hword : Calm s (s.setTable { s.table with buf := s.table.buf ++ [w] }) := {}
      simp only
      split
      · exact hword.trans ((checkImage_calm q _).trans (settle_calm _))
      · exact hword
    · exact {}
  · exact {}

theorem deliver_calm (d : Dest) (w : Word) (s : State) : Calm s (deliver d w s) := by
  cases d with
  | planLoader => exact receivePlanWord_calm w s
  | contextTable => exact receiveImageWord_calm w s
  | dropped => exact {}

/-! ### The port -/

theorem takeRead_calm (r : ReadBurst) (s : State) : Calm s (takeRead r s) := by
  unfold takeRead
  simp only
  split <;> exact {}

theorem arrive_read_calm (r : ReadBurst) (s : State) : Calm s (arrive (.read r) s) := by
  unfold arrive
  split
  · exact {}
  · split
    · exact {}
    · exact takeRead_calm r s

theorem takeHeld_reads_calm {ts : List Txn} (h : ∀ b, Txn.write b ∉ ts) (s : State) : Calm s (takeHeld ts s) := by
  induction ts generalizing s with
  | nil => exact {}
  | cons t ts ih =>
    unfold takeHeld
    split
    · exact {}
    · cases t with
      | write w => exact absurd List.mem_cons_self (h w)
      | read r => exact (takeRead_calm r s).trans (ih (fun b hb => h b (List.mem_cons_of_mem _ hb)) _)

theorem forwardHeld_reads_mem {ts : List Txn} (h : ∀ b, Txn.write b ∉ ts) (s : State) :
    (ts.foldl forwardDirect s).mem = s.mem := by
  induction ts generalizing s with
  | nil => rfl
  | cons t ts ih =>
    cases t with
    | write w => exact absurd List.mem_cons_self (h w)
    | read r => exact ih (fun b hb => h b (List.mem_cons_of_mem _ hb)) _

theorem closeSteps_mem (x : CloseInput) (s : State) : (closeSteps x s).mem = s.mem := by
  simp [closeSteps, stepFour, stepThree, stepTwo, stepOne]

/-! ### The other commands -/

theorem takeFrame_calm (i : Nat) (b : Bool) (f : Frame) (s : State) : Calm s (takeFrame i b f s) := by
  unfold takeFrame
  split
  · split <;> exact {}
  · exact {}

theorem tickWindow_calm (s : State) : Calm s (tickWindow s) := by
  unfold tickWindow
  split
  · split <;> exact {}
  · exact {}

/-- A command that is no controller transaction, performs no entry, closes no channel and leaves the RESET pin alone is
calm. -/
theorem effect_calm {c : Instr} {s t : State} (h : Effect s c t) (htxn : Instr.txn? c = none) (hclose : c ≠ .channelClose)
    (hpost : c ≠ .postPerformed) (hfetch : c ≠ .fetchPerformed) (hreset : ∀ b, c ≠ .resetAsserted b) : Calm s t := by
  cases h with
  | resetAsserted b => exact absurd rfl (hreset b)
  | resetReleased a1 a0 =>
    have hblank : Calm s (((State.blank s.mem s.path.reads s.pending).setResetLow false).setAnchor
      (BitVec.ofBool a1 ++ BitVec.ofBool a0)) := { latch := fun h => by cases h }
    exact hblank.trans ((beginLoad_calm _).trans (settle_calm _))
  | transaction _ t ht => rw [htxn] at ht; cases ht
  | windowLimitExpiry => exact (abandonWindow_reacts _ s).calm.trans (settle_calm _)
  | silenceExpiry w => exact ((setAssembler_reacts s _ _).trans (raiseCaptureFault_reacts _ _ _)).calm
  | frameTaken x => exact takeFrame_calm _ _ _ s
  | frameFinished => exact (dropBusy_reacts s).calm
  | channelClose => exact absurd rfl hclose
  | channelCloseWithoutInput => exact absurd rfl hclose
  | publishWaiting => exact {}
  | publish =>
    have hswap : Calm s (swapBanks s) := {}
    exact hswap.trans ((finishClose_calm _).trans (settle_calm _))
  | waitingWorkReleased => exact (releaseAtPublish_calm s).trans ((finishClose_calm _).trans (settle_calm _))
  | markPulseExpiry => exact {}
  | owner c f => exact (doWork_calm _ f s).trans (settle_calm _)
  | postPerformed => exact absurd rfl hpost
  | fetchPerformed => exact absurd rfl hfetch
  | queueRoomPlacement p => exact (placeNext_settled p s).reacts.calm
  | retryTimerExpiry => exact (beginLoad_calm s).trans (settle_calm _)
  | lineTick =>
    have htick : Calm (tickWindow s) (((tickWindow s).setOut (tickPulse (tickWindow s).out)).setLoader
      (tickRetry (tickWindow s).loader)) := {}
    exact (tickWindow_calm s).trans htick

/-! ## Memory -/

theorem performFetch_mem {s : State} (h : ∀ b, Txn.write b ∉ s.path.held) : (performFetch s).mem = s.mem := by
  unfold performFetch
  split
  · exact (takeHeld_reads_calm h _).mem.trans (deliver_calm _ _ _).mem
  · rfl
  · rfl

/-- Settles O60: every other command is calm, a close included. -/
theorem memoryChangedByPortOnly : Obligations.MemoryChangedByPortOnly := by
  intro c s t h hwrites hpost hreset hheld y
  suffices hmem : t.mem = s.mem by rw [hmem]
  rcases exec_cases h with rfl | he
  · rfl
  cases c with
  | resetAsserted b =>
    cases b with
    | true => exact absurd rfl hreset
    | false =>
      cases he with
      | resetAsserted => exact forwardHeld_reads_mem (hheld (.inr rfl)) s
      | transaction _ _ ht => cases ht
      | owner _ _ hf => cases hf
  | controllerWrite b => exact absurd rfl (hwrites b).1
  | pressStateWord b => exact absurd rfl (hwrites b).2.1
  | captureRingWrite b => exact absurd rfl (hwrites b).2.2.1
  | noticeConsumerWrite b => exact absurd rfl (hwrites b).2.2.2.1
  | mailboxWordWrite b => exact absurd rfl (hwrites b).2.2.2.2
  | controllerRead r =>
    cases he with
    | transaction _ _ ht =>
      cases ht
      exact (arrive_read_calm r s).mem
    | owner _ _ hf => cases hf
  | channelClose =>
    cases he with
    | transaction _ _ ht => cases ht
    | owner _ _ hf => cases hf
    | channelClose x => exact (settle_settled _).mem.trans ((closeSteps_mem _ _).trans (carryOut_calm s).mem)
    | channelCloseWithoutInput => exact (carryOut_calm s).mem
  | postPerformed => exact absurd rfl hpost
  | fetchPerformed =>
    cases he with
    | transaction _ _ ht => cases ht
    | owner _ _ hf => cases hf
    | fetchPerformed => exact performFetch_mem (hheld (.inl rfl))
  | _ => exact (effect_calm he rfl nofun nofun nofun nofun).mem

/-! ## The stop latch -/

/-- `t` has the latch set only where `s` has. -/
def NoLatch (s t : State) : Prop := t.out.stopLatch = true → s.out.stopLatch = true

theorem takeTxn_noLatch (t : Txn) (s : State) : NoLatch s (takeTxn t s) := by
  cases t with
  | write w => exact fun h => (snoop_reacts (placedWords w) (mergeAndForward w s)).stopLatch ▸ h
  | read r => exact (takeRead_calm r s).latch

theorem arrive_noLatch (t : Txn) (s : State) : NoLatch s (arrive t s) := by
  unfold arrive
  split
  · cases t <;> exact id
  · split
    · exact id
    · exact takeTxn_noLatch t s

theorem takeHeld_noLatch (ts : List Txn) (s : State) : NoLatch s (takeHeld ts s) := by
  induction ts generalizing s with
  | nil => exact id
  | cons t ts ih =>
    unfold takeHeld
    split
    · exact id
    · exact fun h => takeTxn_noLatch t s (ih _ h)

theorem performPost_noLatch (s : State) : NoLatch s (performPost s) := by
  unfold performPost
  split
  next a w _ q _ => exact takeHeld_noLatch _ ((popEntry q s).setMem (writeWord s.mem a w))
  · exact id
  · exact id

theorem performFetch_noLatch (s : State) : NoLatch s (performFetch s) := by
  unfold performFetch
  split
  next a d q _ =>
    exact fun h => (deliver_calm d (readWord s.mem a) (popEntry q s)).latch (takeHeld_noLatch _ _ h)
  · exact id
  · exact id

/-- No command but a channel close sets the stop latch. -/
theorem effect_noLatch {c : Instr} {s t : State} (h : Effect s c t) (hclose : c ≠ .channelClose) : NoLatch s t := by
  cases htxn : Instr.txn? c with
  | some x => cases h with
    | transaction _ t => exact arrive_noLatch t s
    | owner c f hf => cases c <;> simp_all [Instr.txn?, Instr.fn?]
    | _ => cases htxn
  | none =>
    by_cases hpost : c = .postPerformed
    · subst hpost
      cases h with
      | postPerformed => exact performPost_noLatch s
      | transaction _ _ ht => cases ht
      | owner _ _ hf => cases hf
    by_cases hfetch : c = .fetchPerformed
    · subst hfetch
      cases h with
      | fetchPerformed => exact performFetch_noLatch s
      | transaction _ _ ht => cases ht
      | owner _ _ hf => cases hf
    by_cases hreset : ∃ b, c = .resetAsserted b
    · obtain ⟨b, rfl⟩ := hreset
      cases h with
      | resetAsserted => exact fun hl => by cases hl
      | transaction _ _ ht => cases ht
      | owner _ _ hf => cases hf
    exact (effect_calm h htxn hclose hpost hfetch fun b hb => hreset ⟨b, hb⟩).latch

/-! ## The close and the latch (R112) -/

theorem takeSnapshot_loader (k : SnapshotKind) (s : State) : (takeSnapshot k s).loader = s.loader := by
  unfold takeSnapshot
  split <;> rfl

theorem beginRestore_loader (s : State) : (beginRestore s).loader = s.loader := by
  unfold beginRestore
  split <;> rfl

theorem doDump_loader (s : State) : (doDump s).loader = s.loader := by
  unfold doDump
  split <;> rfl

theorem raiseNotice_loader (g : Option Gate) (n : Notice) (s : State) : (raiseNotice g n s).loader = s.loader := by
  rcases raiseNotice_cases g n s with h | h <;> rw [h]
  rfl

theorem changeCavity_loader (f : CavityCtx → CavityCtx) (s : State) : (changeCavity f s).loader = s.loader := by
  have hset : ∀ p c v, (setCavity p c v s).loader = s.loader := by
    intro p c v
    unfold setCavity
    split <;> rfl
  unfold changeCavity
  split
  · rfl
  · simp only
    split
    · exact hset _ _ _
    · exact (raiseNotice_loader _ _ _).trans (hset _ _ _)

/-- No request but RELOAD PLAN touches the loader. -/
theorem doWork_loader (k : SnapshotKind) {f : Fn} (h : f ≠ .reloadPlan) (s : State) : (doWork k f s).loader = s.loader := by
  cases f with
  | releaseCavity => exact changeCavity_loader _ s
  | excludeCavity => exact changeCavity_loader _ s
  | includeCavity => exact changeCavity_loader _ s
  | setPathEnables => exact changeCavity_loader _ s
  | acknowledgeStop => rfl
  | saveContext => exact takeSnapshot_loader k s
  | restoreContext => exact beginRestore_loader s
  | reloadPlan => exact absurd rfl h
  | setOverlay => rfl
  | dumpChannels => exact doDump_loader s

/-- A request that is carried out while CLOSING leaves plan and tracker as they are, if a plan then runs. -/
theorem carryOut_frame {s : State} {pl : Plan} (h : s.tracker.state = .closing)
    (hpl : (carryOut s).runningPlan = some pl) : s.runningPlan = some pl ∧ (carryOut s).tracker = s.tracker := by
  have htracker : (carryOut s).tracker = s.tracker := by
    rcases carryOut_of_closing h with ht | hn
    · exact ht
    · have := hn.symm.trans hpl
      cases this
  refine ⟨?_, htracker⟩
  unfold carryOut at hpl
  split at hpl
  next f _ =>
    rw [settle_runningPlan] at hpl
    by_cases hf : f = .reloadPlan
    · rw [hf] at hpl
      change (reloadPlan s).runningPlan = some pl at hpl
      unfold reloadPlan at hpl
      split at hpl
      next _ ho => exact absurd (h.symm.trans ho) (by decide)
      · exact hpl
      all_goals cases hpl
    · rwa [State.runningPlan, doWork_loader _ hf] at hpl
  · exact hpl

theorem closeSteps_latch (x : CloseInput) (s : State) :
    (closeSteps x s).out.stopLatch =
      (s.out.stopLatch ||
        (x.profile.stopAction &&
          (closeCavities (closeChannels s x.plan) x.profile x.context).any CavOut.enteredCracked)) := by
  simp only [closeSteps, stepFour, stepThree, stepTwo, stepOne, State.setClosing_out, State.setOut_out, State.setReport_out,
    State.setTable_out, State.setEval_out]

theorem closeSteps_contexts (x : CloseInput) (s : State) :
    (closeSteps x s).table.contexts = s.table.contexts.set x.number
      (stepTwoContext (closeChannels s x.plan) x (closeCavities (closeChannels s x.plan) x.profile x.context)) := by
  simp only [closeSteps, stepFour, stepThree, stepTwo, stepOne, State.setClosing_table, State.setOut_table,
    State.setReport_table, State.setTable_table, List.set_set]

/-- Cavity `i` of the active context after a close is what the close of cavity `i` has made of it. -/
theorem closeSteps_hasCavity {x : CloseInput} {s : State} (hx : closeInput s = some x) (i : Nat) (w : CavityCtx) :
    (settle (closeSteps x s)).hasCavity x.number i w ↔
      ∃ o, (closeCavities (closeChannels s x.plan) x.profile x.context)[i]? = some o ∧ o.after = w := by
  obtain ⟨-, -, -, hc⟩ := closeInput_eq_some hx
  have hlt : x.number < s.table.contexts.length := (List.getElem?_eq_some_iff.mp hc).1
  unfold State.hasCavity
  rw [(settle_settled _).contexts, closeSteps_contexts, List.getElem?_set_self hlt]
  simp only [Option.some.injEq, exists_eq_left', stepTwoContext, List.getElem?_map, Option.map_eq_some_iff]

theorem hasCavity_of_closeInput {x : CloseInput} {s : State} (hx : closeInput s = some x) (i : Nat) (v : CavityCtx) :
    s.hasCavity x.number i v ↔ x.context.cavities[i]? = some v := by
  obtain ⟨-, -, -, hc⟩ := closeInput_eq_some hx
  unfold State.hasCavity
  rw [hc]
  simp only [Option.some.injEq, exists_eq_left']

theorem enteredCracked_iff (o : CavOut) :
    o.enteredCracked = true ↔ o.before.state ≠ .cracked ∧ o.after.state = .cracked := by
  simp only [CavOut.enteredCracked, Bool.and_eq_true, bne_iff_ne, beq_iff_eq]

/-- A close of a profile with stop action that takes a cavity into CRACKED is what sets the latch. -/
theorem latchSet_closes {c : Instr} {s t : State} (h : exec c s = .next t) (hs : s.out.stopLatch = false)
    (ht : t.out.stopLatch = true) :
    ∃ x, c = .channelClose ∧ s.tracker.state = .closing ∧ closeInput (carryOut s) = some x ∧
      t = settle (closeSteps x (carryOut s)) ∧ x.profile.stopAction = true ∧
      ∃ o ∈ closeCavities (closeChannels (carryOut s) x.plan) x.profile x.context, o.enteredCracked = true := by
  have hcalm : ∀ u, NoLatch s u → u.out.stopLatch ≠ true := by
    intro u hu hl
    have := hs.symm.trans (hu hl)
    cases this
  rcases exec_cases h with rfl | he
  · exact absurd ht (hcalm t id)
  by_cases hc : c = .channelClose
  · subst hc
    cases he with
    | transaction _ _ hx => cases hx
    | owner _ _ hf => cases hf
    | channelCloseWithoutInput => exact absurd ht (hcalm _ (carryOut_calm s).latch)
    | channelClose x hd hx =>
      rw [(settle_settled _).stopLatch, closeSteps_latch, Bool.or_eq_true, Bool.and_eq_true, List.any_eq_true] at ht
      obtain ⟨hstop, hentered⟩ := ht.resolve_left (hcalm _ (carryOut_calm s).latch)
      exact ⟨x, rfl, closeDue_closing hd, hx, rfl, hstop, hentered⟩
  · exact absurd ht (hcalm t (effect_noLatch he hc))

/-- A close that is not carried out leaves every cavity as it is. -/
theorem channelClose_cases {s t : State} (h : exec .channelClose s = .next t)
    (hwork : ∀ k, s.mail.work = some k → k.phase ≠ .handed) :
    t = s ∨ ∃ x, closeInput s = some x ∧ t = settle (closeSteps x s) := by
  have hcarry : carryOut s = s := by
    have hnone : handedFn s = none := by
      cases hf : handedFn s with
      | none => rfl
      | some f =>
        obtain ⟨w, hw, hp, -⟩ := handedFn_eq_some hf
        exact absurd hp (hwork w hw)
    rw [carryOut, hnone]
  rcases exec_cases h with rfl | he
  · exact .inl rfl
  · cases he with
    | transaction _ _ hx => cases hx
    | owner _ _ hf => cases hf
    | channelCloseWithoutInput => exact .inl hcarry
    | channelClose x _ hx =>
      rw [hcarry] at hx ⊢
      exact .inr ⟨x, hx, rfl⟩

/-- Settles O35: only a channel close can set the latch, and it sets it by an entry into CRACKED. -/
theorem latchSetOnlyByClose : Obligations.LatchSetOnlyByClose := by
  refine ⟨fun c s t h hs ht => ?_, fun s t pl p i q v w h hwork hpl hp hq hstop hv hvs hw hws => ?_⟩
  · obtain ⟨x, rfl, hclosing, hx, rfl, hstop, o, ho, hentered⟩ := latchSet_closes h hs ht
    obtain ⟨hpl, hactive, hprofile, -⟩ := closeInput_eq_some hx
    obtain ⟨hpl', htracker⟩ := carryOut_frame hclosing hpl
    obtain ⟨hbefore, hafter⟩ := (enteredCracked_iff o).mp hentered
    obtain ⟨i, hi⟩ := List.mem_iff_getElem?.mp ho
    have horigin : x.context.cavities[i]? = some o.before := by
      obtain ⟨p, v, -, hv, rfl⟩ := closeCavities_getElem?.mp hi
      rwa [(cavityClosed_origin _ _ _ i p v).2.2]
    exact ⟨rfl, x.plan, x.number, x.profile, i, o.before, o.after, hpl', htracker ▸ hactive, hprofile, hstop,
      (hasCavity_of_closeInput hx i _).mpr horigin, hbefore, (closeSteps_hasCavity hx i _).mpr ⟨o, hi, rfl⟩, hafter⟩
  · rcases channelClose_cases h hwork with rfl | ⟨x, hx, rfl⟩
    · obtain ⟨y, hy, hyv⟩ := hv
      obtain ⟨z, hz, hzw⟩ := hw
      cases hy.symm.trans hz
      cases hyv.symm.trans hzw
      exact absurd hws hvs
    · obtain ⟨hpl', hactive, hprofile, -⟩ := closeInput_eq_some hx
      cases hp.symm.trans hactive
      cases hpl.symm.trans hpl'
      cases hq.symm.trans hprofile
      obtain ⟨o, ho, rfl⟩ := (closeSteps_hasCavity hx i w).mp hw
      have hv' := (hasCavity_of_closeInput hx i v).mp hv
      have hbefore : o.before = v := by
        obtain ⟨e, u, -, hu, rfl⟩ := closeCavities_getElem?.mp ho
        rw [(cavityClosed_origin _ _ _ i e u).2.2]
        exact Option.some.inj (hu.symm.trans hv')
      have hentered : o.enteredCracked = true := (enteredCracked_iff o).mpr ⟨hbefore ▸ hvs, hws⟩
      have hany : (closeCavities (closeChannels s x.plan) x.profile x.context).any CavOut.enteredCracked = true :=
        List.any_eq_true.mpr ⟨o, List.mem_of_getElem? ho, hentered⟩
      rw [(settle_settled _).stopLatch, closeSteps_latch, hstop, hany, Bool.and_self, Bool.or_true]

end Sys2Proof.Machine
end

section
/-! PROOFS. The controller port and the memory path (chapter 9): what is refused, held, written, read and performed. -/

namespace Sys2Proof.Machine

/-! ## Refused and held (9.1, R138) -/

theorem submit_refused {t : Txn} (h : t.ok = false) (s : State) : submit t s = .refused .notATransaction := by
  unfold submit
  rw [if_neg (by rw [h]; decide)]

theorem burst_not_ok {a : Addr} {n : Nat} (h : n ∉ [1, 2, 4, 8] ∨ a.toNat % (4 * n) ≠ 0) :
    (burstLength n && burstAligned a n) = false := by
  rw [Bool.and_eq_false_iff]
  refine h.imp (fun hn => ?_) fun ha => decide_eq_false ha
  simpa [burstLength, not_or, and_assoc] using hn

theorem mem_writeRows_refused {t : WriteBurst} {c : Instr} (h : t.ok = false) (hc : c ∈ writeRows t) (s : State) :
    exec c s = .refused .notATransaction := by
  have hs : submit (.write t) s = .refused .notATransaction := submit_refused (t := .write t) h s
  simp only [writeRows, List.mem_cons, List.not_mem_nil, or_false] at hc
  rcases hc with rfl | rfl | rfl | rfl | rfl <;> exact hs

theorem arrive_held {s : State} (t : Txn) (hr : s.resetLow = false)
    (h : (Config.turnLimit ≤ s.path.turn ∧ s.path.queue ≠ []) ∨ s.path.held ≠ []) :
    arrive t s = s.setPath { s.path with held := s.path.held ++ [t] } := by
  have hb : (!s.path.held.isEmpty || holds s) = true := by
    rcases h with ⟨hturn, hq⟩ | hheld
    · simp [holds, hturn, hq]
    · simp [hheld]
  rw [arrive, hr, if_neg (by decide), if_pos hb]

theorem exec_read {t : ReadBurst} (h : t.ok = true) (s : State) :
    exec (.controllerRead t) s = .next (arrive (.read t) s) := by
  have h' : (Txn.read t).ok = true := h
  show submit (.read t) s = _
  unfold submit
  rw [if_pos h']

/-- Settles O2: what is no transaction is refused; the arbiter holds what arrives at turn count 4 or behind a held one. -/
theorem refusedOrHeld : Obligations.RefusedOrHeld := by
  refine ⟨⟨fun t s h c hc => mem_writeRows_refused (burst_not_ok h) hc s,
    fun t s h => submit_refused (t := .read t) (burst_not_ok h) s⟩, fun s hr h => ⟨fun t ht c hc => ?_, fun t ht => ?_⟩⟩
  · rw [exec_writeRow s ht hc, arrive_held _ hr h]
  · rw [exec_read ht, arrive_held _ hr h]

/-! ## The words of a burst -/

theorem placedWords_eq_mapIdx (t : WriteBurst) : placedWords t = t.words.mapIdx fun i x => (burstAddr t.addr i, x) := by
  rw [placedWords, List.mapIdx_eq_zipIdx_map]

/-- The words of a transaction lie at ascending addresses (9.1). -/
theorem placedWords_of_ok {t : WriteBurst} (h : t.ok = true) :
    placedWords t = t.words.mapIdx fun i x => (t.addr.toNat + 4 * i, x) := by
  rw [WriteBurst.ok, Bool.and_eq_true] at h
  rw [placedWords_eq_mapIdx]
  refine List.mapIdx_eq_mapIdx_iff.mpr fun i hi => ?_
  rw [burstAddr_eq h.1 h.2 hi]

theorem readAddrs_of_ok {t : ReadBurst} (h : t.ok = true) :
    readAddrs t = (List.range t.len).map fun i => t.addr.toNat + 4 * i := by
  rw [ReadBurst.ok, Bool.and_eq_true] at h
  exact List.map_congr_left fun i hi => burstAddr_eq h.1 h.2 (List.mem_range.mp hi)

/-! ## Lanes of a word -/

/-- Lane `k` of the word made of four bytes is byte `k`. -/
theorem laneOf_bytes (b : Nat → Byte) {k : Nat} (hk : k < 4) :
    laneOf (b 3 ++ b 2 ++ b 1 ++ b 0 : BitVec 32) k = b k := by
  refine BitVec.eq_of_getLsbD_eq fun i hi => ?_
  simp only [laneOf, BitVec.getLsbD_append, BitVec.getLsbD_extractLsb']
  obtain rfl | rfl | rfl | rfl : k = 0 ∨ k = 1 ∨ k = 2 ∨ k = 3 := by omega
  · simp [hi]
  · simp [hi]
  · simp [hi, show ¬ 16 + i < 8 by omega, show 16 + i - 8 = 8 + i by omega]
  · simp [hi, show ¬ 24 + i < 8 by omega, show 24 + i - 8 = 16 + i by omega, show ¬ 16 + i < 8 by omega,
      show 16 + i - 8 = 8 + i by omega]

theorem laneOf_readWord (m : List Host.Cell) (a : Nat) {k : Nat} (hk : k < 4) :
    laneOf (readWord m a) k = readByte m (a + k) := laneOf_bytes (fun k => readByte m (a + k)) hk

theorem laneOf_mergeLanes (old new : Word) (l : Lanes) {k : Nat} (hk : k < 4) :
    laneOf (mergeLanes old new l) k = if l.getLsbD k then laneOf new k else laneOf old k :=
  laneOf_bytes (pickLane old new l) hk

/-- Words that agree in their four lanes are equal. -/
theorem word_eq_of_lanes {v w : Word} (h : ∀ k, k < 4 → laneOf v k = laneOf w k) : v = w := by
  refine BitVec.eq_of_getLsbD_eq fun i hi => ?_
  have hlane := congrArg (fun b : Byte => b.getLsbD (i % 8)) (h (i / 8) (by omega))
  simpa only [laneOf, BitVec.getLsbD_extractLsb', show i % 8 < 8 by omega, decide_true, Bool.true_and,
    show 8 * (i / 8) + i % 8 = i by omega] using hlane

theorem readByte_writeWord {m : List Host.Cell} {a k : Nat} {w : Word} (h : memWf m = true) (hk : k < 4) :
    readByte (writeWord m a w) (a + k) = laneOf w k := by
  rw [← laneOf_readWord _ _ hk, readWord_writeWord h]

theorem readByte_writeLanes_lane {m : List Host.Cell} {a k : Nat} {w : Word} {l : Lanes} (h : memWf m = true) (hk : k < 4) :
    readByte (writeLanes m a w l) (a + k) = if l.getLsbD k then laneOf w k else readByte m (a + k) := by
  rw [readByte_writeLanes h, Nat.add_sub_cancel_left]
  simp only [Nat.le_add_right, Nat.add_lt_add_iff_left, hk, true_and]

/-- A write of lanes makes of its word what the merge of R135 makes of it. -/
theorem readWord_writeLanes {m : List Host.Cell} (a : Nat) (w : Word) (l : Lanes) (h : memWf m = true) :
    readWord (writeLanes m a w l) a = mergeLanes (readWord m a) w l := by
  refine word_eq_of_lanes fun k hk => ?_
  rw [laneOf_readWord _ _ hk, readByte_writeLanes_lane h hk, laneOf_mergeLanes _ _ _ hk, laneOf_readWord _ _ hk]

theorem readWord_writeLanes_apart {m : List Host.Cell} {a b : Nat} (w : Word) (l : Lanes) (h : memWf m = true)
    (hab : b + 4 ≤ a ∨ a + 4 ≤ b) : readWord (writeLanes m a w l) b = readWord m b := by
  refine word_eq_of_lanes fun k hk => ?_
  rw [laneOf_readWord _ _ hk, laneOf_readWord _ _ hk, readByte_writeLanes_outside h (by omega)]

/-! ## Writes that reach memory (R131, R139) -/

theorem mapIdx_words_cons (a : Nat) (x : WriteWord) (xs : List WriteWord) :
    (x :: xs).mapIdx (fun i y => (a + 4 * i, y)) = (a, x) :: xs.mapIdx fun i y => (a + 4 + 4 * i, y) := by
  rw [List.mapIdx_cons]
  refine congrArg₂ _ rfl (List.mapIdx_eq_mapIdx_iff.mpr fun i _ => ?_)
  rw [show a + 4 * (i + 1) = a + 4 + 4 * i by omega]

theorem forwardWord_eq (m : List Host.Cell) (a : Nat) (x : WriteWord) :
    forwardWord m (a, x) = writeLanes m a x.data x.lanes := rfl

theorem readByte_forwardWords_outside (xs : List WriteWord) {m : List Host.Cell} {a y : Nat} (h : memWf m = true)
    (hy : y < a ∨ a + 4 * xs.length ≤ y) :
    readByte ((xs.mapIdx fun i x => (a + 4 * i, x)).foldl forwardWord m) y = readByte m y := by
  induction xs generalizing m a with
  | nil => rfl
  | cons x xs ih =>
    rw [List.length_cons] at hy
    rw [mapIdx_words_cons, List.foldl_cons, forwardWord_eq, ih (memWf_writeLanes h) (by omega)]
    exact readByte_writeLanes_outside h (by omega)

/-- Every word of the burst is written, lane by lane. -/
theorem readByte_forwardWords (xs : List WriteWord) {m : List Host.Cell} {a i k : Nat} {x : WriteWord} (h : memWf m = true)
    (hx : xs[i]? = some x) (hk : k < 4) :
    readByte ((xs.mapIdx fun i x => (a + 4 * i, x)).foldl forwardWord m) (a + 4 * i + k)
      = if x.lanes.getLsbD k then laneOf x.data k else readByte m (a + 4 * i + k) := by
  induction xs generalizing m a i with
  | nil => cases hx
  | cons y ys ih =>
    rw [mapIdx_words_cons, List.foldl_cons, forwardWord_eq]
    cases i with
    | zero =>
      cases hx
      rw [readByte_forwardWords_outside _ (memWf_writeLanes h) (by omega)]
      exact readByte_writeLanes_lane h hk
    | succ i =>
      have hrest := ih (a := a + 4) (memWf_writeLanes (a := a) (w := y.data) (l := y.lanes) h) hx
      rw [show a + 4 + 4 * i + k = a + 4 * (i + 1) + k by omega] at hrest
      rw [hrest,
        readByte_writeLanes_outside h (by omega)]

/-- A write that is not held leaves what its words make of memory, and of the path only what the blocks answer. -/
theorem arrive_write {t : WriteBurst} {s : State} (h : s.resetLow = true ∨ s.takes) :
    (arrive (.write t) s).mem = (placedWords t).foldl forwardWord s.mem ∧
      (arrive (.write t) s).pending = s.pending ∧ (arrive (.write t) s).path.reads = s.path.reads := by
  rcases h with hr | ht
  · rw [arrive_resetLow _ hr]
    exact ⟨rfl, rfl, rfl⟩
  · rw [arrive_takes _ ht]
    have hsnoop := snoop_reacts (placedWords t) (mergeAndForward t s)
    exact ⟨hsnoop.mem, hsnoop.pending, hsnoop.reads⟩

/-- Settles O3: no block that watches the words writes to memory. -/
theorem writeReachesMemory : Obligations.WriteReachesMemory := by
  intro t s hok hwf h c hc
  obtain ⟨hmem, hpending, hreads⟩ := arrive_write (t := t) h
  rw [placedWords_of_ok hok] at hmem
  refine ⟨_, exec_writeRow s hok hc, hpending, hreads, fun i x hx k hk => ?_, fun y hy => ?_⟩
  · rw [hmem, readByte_forwardWords _ hwf hx hk]
  · rw [hmem, readByte_forwardWords_outside _ hwf hy]

/-! ## A write that is taken (R131, R132, R135) -/

theorem State.unwatched.of_eq {s m : State} {a : Nat} (h : s.unwatched a) (hb : m.base = s.base)
    (hr : m.runningPlan = s.runningPlan) : m.unwatched a := by
  unfold State.unwatched
  rw [hb, hr]
  exact h

theorem snoop_unwatched {m : State} (xs : List (Nat × WriteWord)) (h : ∀ x ∈ xs, m.unwatched x.1) :
    xs.foldl snoopWord m = m := by
  induction xs with
  | nil => rfl
  | cons x xs ih =>
    rw [List.foldl_cons, snoopWord_unwatched x.2 (h x List.mem_cons_self)]
    exact ih fun y hy => h y (List.mem_cons_of_mem _ hy)

/-- One write word takes its lanes of every POST to its address, and withdraws those that have lost all four (R135). -/
theorem mergeWord_eq_filterMap {q : List Entry} (a : Nat) (x : WriteWord) (h : q.all Entry.stays = true) :
    mergeWord q (a, x) = q.filterMap fun e =>
      match e with
      | .post b w o =>
        if b = a then
          if o ||| x.lanes = 15 then none else some (.post a (mergeLanes w x.data x.lanes) (o ||| x.lanes))
        else some (.post b w o)
      | .fetch b d => some (.fetch b d) := by
  induction q with
  | nil => rfl
  | cons e q ih =>
    rw [List.all_cons, Bool.and_eq_true] at h
    obtain ⟨he, hq⟩ := h
    rw [List.filterMap_cons, ← ih hq, mergeWord, List.map_cons, List.filter_cons]
    cases e with
    | fetch b d => rfl
    | post b w o =>
      by_cases hb : b = a
      · rw [show mergeEntry (a, x) (.post b w o) = .post b (mergeLanes w x.data x.lanes) (o ||| x.lanes) from if_pos hb, hb]
        by_cases hl : o ||| x.lanes = 15
        · simp [Entry.stays, hl, mergeWord]
        · have hl' : ¬ o ||| x.lanes = 15#4 := hl
          simp [Entry.stays, hl', mergeWord]
      · rw [show mergeEntry (a, x) (.post b w o) = .post b w o from if_neg hb, he]
        simp [hb, mergeWord]

/-- Settles O4: merge, forward, one turn, and the words one by one to the blocks that watch them. -/
theorem writeTaken : Obligations.WriteTaken := by
  refine ⟨fun t s hok ht => ?_, fun t s hok hr c hc => ?_, fun s a d l ht ha c hc => exec_oneWord ha ht hc,
    fun q a x h => mergeWord_eq_filterMap a x h, fun old new l k hk => laneOf_mergeLanes old new l hk⟩
  · intro words m c hc
    have hwords : placedWords t = words := placedWords_of_ok hok
    have hmerge : mergeAndForward t s = m := by
      rw [mergeAndForward, hwords]
      rfl
    have hexec : exec c s = .next (words.foldl snoopWord m) := by
      rw [exec_writeRow s hok hc, arrive_takes _ ht]
      show Host.Outcome.next ((placedWords t).foldl snoopWord (mergeAndForward t s)) = _
      rw [hwords, hmerge]
    refine ⟨hexec, fun hun => ?_⟩
    rw [hexec, snoop_unwatched (m := m) words fun x hx => (hun x hx).of_eq rfl rfl]
  · rw [exec_writeRow s hok hc, arrive_resetLow _ hr, ← placedWords_of_ok hok]
    rfl

/-! ## Reads (R131, R133, R136) -/

theorem youngestPost_eq_none_iff {a : Nat} {q : List Entry} :
    youngestPost a q = none ↔ ∀ v p, Entry.post a v p ∉ q := by
  induction q with
  | nil => simp [youngestPost]
  | cons e q ih =>
    cases e with
    | fetch b d => simp [youngestPost, ih]
    | post b w o =>
      simp only [youngestPost, Option.or_eq_none_iff, ih, List.mem_cons, not_or, Entry.post.injEq]
      constructor
      · rintro ⟨hq, hb⟩ v p
        refine ⟨fun ⟨he, _⟩ => ?_, hq v p⟩
        rw [if_pos he.symm] at hb
        cases hb
      · intro h
        refine ⟨fun v p => (h v p).2, if_neg fun hb => (h w o).1 ⟨hb.symm, rfl, rfl⟩⟩

theorem youngestPost_append (a : Nat) (q r : List Entry) :
    youngestPost a (q ++ r) = (youngestPost a r).or (youngestPost a q) := by
  induction q with
  | nil => simp [youngestPost]
  | cons e q ih => cases e <;> simp [youngestPost, ih, Option.or_assoc]

theorem youngestPost_of_split {a : Nat} {q r : List Entry} {w : Word} {o : Lanes} (h : ∀ v p, Entry.post a v p ∉ r) :
    youngestPost a (q ++ .post a w o :: r) = some w := by
  rw [youngestPost_append, youngestPost, youngestPost_eq_none_iff.mpr h]
  simp

theorem overlaid_iff (s : State) (a : Nat) :
    overlaid s a = true ↔ s.path.overlay = true ∧ s.base + 0x100 ≤ a ∧ a < s.base + 0x200 := by
  simp only [overlaid, Bool.and_eq_true, decide_eq_true_eq, and_assoc, show Config.verdictOffset = 0x100 from rfl,
    Nat.add_assoc]

section
variable {s : State} {a : Nat}

theorem serveWord_overlaid (h : overlaid s a = true) :
    serveWord s a = (overlayWord s ((a - (s.base + 0x100)) / 4), false) := if_pos h

theorem serveWord_of_post {w : Word} (h : overlaid s a = false) (hw : youngestPost a s.path.queue = some w) :
    serveWord s a = (w, false) := by
  simp only [serveWord, h, Bool.false_eq_true, if_false, hw]

theorem serveWord_of_memory (h : overlaid s a = false) (hw : youngestPost a s.path.queue = none) :
    serveWord s a = (readWord s.mem a, true) := by
  simp only [serveWord, h, Bool.false_eq_true, if_false, hw]

theorem serveWord_snd (s : State) (a : Nat) :
    (serveWord s a).2 = true ↔ (∀ v p, Entry.post a v p ∉ s.path.queue) ∧
      ¬ (s.path.overlay = true ∧ s.base + 0x100 ≤ a ∧ a < s.base + 0x200) := by
  rw [← youngestPost_eq_none_iff, ← overlaid_iff, Bool.not_eq_true]
  cases ho : overlaid s a with
  | true => simp [serveWord_overlaid ho]
  | false =>
    cases hy : youngestPost a s.path.queue with
    | some w => simp [serveWord_of_post ho hy]
    | none => simp [serveWord_of_memory ho hy]

end

theorem published_getD {s : State} {j : Nat} {w : Word} (h : s.report.published[j]? = some w) :
    s.report.published.getD j 0 = w := by
  rw [List.getD_eq_getElem?_getD, h, Option.getD_some]

/-- The words of the verdict window in their order: live, bank, defined channels, bank (11.5). -/
theorem overlayWord_cases (s : State) :
    overlayWord s 0 = liveWord s ∧ (∀ j, j < 57 → overlayWord s (1 + j) = s.report.published.getD j 0) ∧
      overlayWord s 58 = definedWord s 0 ∧ overlayWord s 59 = definedWord s 1 ∧
      ∀ j, j < 4 → overlayWord s (60 + j) = s.report.published.getD (57 + j) 0 := by
  refine ⟨rfl, fun j hj => ?_, rfl, rfl, fun j hj => ?_⟩
  · rw [overlayWord, if_neg (by omega), if_pos (by omega), Nat.add_sub_cancel_left]
  · rw [overlayWord, if_neg (by omega), if_neg (by omega), if_neg (by omega), if_neg (by omega),
      show 60 + j - 3 = 57 + j by omega]

/-- The answer of a read: its words, and the turn that it takes if one of them comes from memory. -/
def readData (t : ReadBurst) (s : State) : List Word := ((readAddrs t).map (serveWord s)).map Prod.fst
def readTurn (t : ReadBurst) (s : State) : Nat :=
  if ((readAddrs t).map (serveWord s)).any Prod.snd then min 4 (s.path.turn + 1) else s.path.turn

theorem takeRead_eq (t : ReadBurst) (s : State) :
    takeRead t s = s.setPath { s.path with
      reads := s.path.reads ++ [{ addr := t.addr, data := readData t s }], turn := readTurn t s } := by
  unfold takeRead readTurn
  simp only
  split <;> rfl

theorem readData_getElem? {t : ReadBurst} (s : State) (h : t.ok = true) {i : Nat} (hi : i < t.len) :
    (readData t s)[i]? = some (serveWord s (t.addr.toNat + 4 * i)).1 := by
  simp only [readData, readAddrs_of_ok h, List.getElem?_map, List.getElem?_range hi, Option.map_some]

/-- Settles O5: the words are served one by one; RESET low reads memory alone. -/
theorem readServed : Obligations.ReadServed := by
  refine ⟨fun t s hok ht => ⟨readData t s, readTurn t s, ?_, ?_, fun i hi => ?_, ?_⟩, fun t s hok hr => ?_⟩
  · rw [exec_read hok, arrive_takes _ ht]
    exact congrArg _ (takeRead_eq t s)
  · simp [readData, readAddrs_of_ok hok]
  · intro a
    rw [readData_getElem? s hok hi]
    split
    next ho =>
      obtain ⟨hlive, hbank, hlow, hhigh, hlast⟩ := overlayWord_cases s
      rw [serveWord_overlaid ((overlaid_iff s _).mpr ho)]
      refine ⟨fun ha => ?_, fun j w hw hj ha => ?_, fun ha => ?_, fun ha => ?_, fun j w hw hj ha => ?_⟩
      · rw [show (t.addr.toNat + 4 * i - (s.base + 0x100)) / 4 = 0 by omega, hlive]
      · rw [show (t.addr.toNat + 4 * i - (s.base + 0x100)) / 4 = 1 + j by omega, hbank j hj, published_getD hw]
      · rw [show (t.addr.toNat + 4 * i - (s.base + 0x100)) / 4 = 58 by omega, hlow]
      · rw [show (t.addr.toNat + 4 * i - (s.base + 0x100)) / 4 = 59 by omega, hhigh]
      · rw [show (t.addr.toNat + 4 * i - (s.base + 0x100)) / 4 = 60 + j by omega, hlast j hj, published_getD hw]
    next ho =>
      have ho' : overlaid s (t.addr.toNat + 4 * i) = false :=
        Bool.eq_false_iff.mpr fun h => ho ((overlaid_iff s _).mp h)
      refine ⟨fun q r w o hq hr => ?_, fun hn => ?_⟩
      · rw [serveWord_of_post ho' (hq ▸ youngestPost_of_split hr)]
      · rw [serveWord_of_memory ho' (youngestPost_eq_none_iff.mpr hn)]
  · refine if_congr ?_ rfl rfl
    simp only [readAddrs_of_ok hok, List.any_map, List.any_eq_true, List.mem_range, Function.comp_apply, serveWord_snd]
  · rw [exec_read hok, arrive_resetLow _ hr]
    show Host.Outcome.next (returnData t ((readAddrs t).map (readWord s.mem)) s) = _
    rw [readAddrs_of_ok hok, List.map_map]
    rfl

/-! ## The memory to be (R136) -/

theorem performAll_readWord {q : List Entry} {m : List Host.Cell} {a : Nat} (h : memWf m = true)
    (hq : ∀ e ∈ q, ∀ b w o, e = Entry.post b w o → b % 4 = 0) (ha : a % 4 = 0) :
    readWord (performAll q m) a = (youngestPost a q).getD (readWord m a) := by
  induction q generalizing m with
  | nil => rfl
  | cons e q ih =>
    have hrest : ∀ e ∈ q, ∀ b w o, e = Entry.post b w o → b % 4 = 0 := fun e he => hq e (List.mem_cons_of_mem _ he)
    cases e with
    | fetch b d => exact ih h hrest
    | post b w o =>
      have hb : b % 4 = 0 := hq _ List.mem_cons_self b w o rfl
      rw [performAll, ih (memWf_writeWord h) hrest, youngestPost, Option.getD_or]
      congr 1
      by_cases hba : b = a
      · rw [hba, readWord_writeWord h, if_pos rfl, Option.getD_some]
      · rw [readWord_writeWord_apart h (by omega), if_neg hba, Option.getD_none]

section
variable {m : List Host.Cell} {q : List Entry}

theorem Coherent.aligned (h : Coherent m q) : ∀ e ∈ q, ∀ b w o, e = Entry.post b w o → b % 4 = 0 := by
  intro e he b w o hpost
  have := h.2.1 e he
  rw [hpost] at this
  exact this.1

theorem Coherent.read (h : Coherent m q) {a : Nat} (ha : a % 4 = 0) :
    readWord (performAll q m) a = (youngestPost a q).getD (readWord m a) := performAll_readWord h.1 h.aligned ha

theorem getLsbD_fifteen {k : Nat} (hk : k < 4) : BitVec.getLsbD (15 : Lanes) k = true := by
  obtain rfl | rfl | rfl | rfl : k = 0 ∨ k = 1 ∨ k = 2 ∨ k = 3 := by omega
  all_goals rfl

theorem eq_fifteen_of_lanes {o : Lanes} (h : ∀ k, k < 4 → o.getLsbD k = true) : o = 15 :=
  BitVec.eq_of_getLsbD_eq fun k hk => (h k hk).trans (getLsbD_fifteen hk).symm

/-- The removal of POSTs that have lost all four lanes takes away the youngest one to a word, with every older one, or leaves
what is read of the word. -/
theorem youngestPost_filter (b : Nat) (h : q.Pairwise Entry.lostMore) :
    youngestPost b (q.filter Entry.stays) = youngestPost b q ∨
      (youngestPost b (q.filter Entry.stays) = none ∧ ∃ v, youngestPost b q = some v ∧ Entry.post b v 15 ∈ q) := by
  induction q with
  | nil => exact .inl rfl
  | cons e q ih =>
    obtain ⟨hlost, hrest⟩ := List.pairwise_cons.mp h
    cases e with
    | fetch c d =>
      rw [List.filter_cons_of_pos (show (Entry.fetch c d).stays = true from rfl)]
      simp only [youngestPost]
      refine (ih hrest).imp id fun ⟨hn, v, hv, hmem⟩ => ⟨hn, v, hv, List.mem_cons_of_mem _ hmem⟩
    | post c w o =>
      by_cases ho : o = 15
      · rw [ho, List.filter_cons_of_neg (show ¬ (Entry.post c w 15).stays = true from nofun), youngestPost]
        rcases ih hrest with he | ⟨hn, v, hv, hmem⟩
        · cases hq : youngestPost b q with
          | some v => exact .inl (he.trans hq)
          | none =>
            by_cases hc : c = b
            · refine .inr ⟨he.trans hq, w, by rw [if_pos hc]; rfl, ?_⟩
              rw [hc]
              exact List.mem_cons_self
            · exact .inl (by rw [he, hq, if_neg hc]; rfl)
        · exact .inr ⟨hn, v, by rw [hv]; rfl, List.mem_cons_of_mem _ hmem⟩
      · have hstays : (Entry.post c w o).stays = true := bne_iff_ne.mpr ho
        rw [List.filter_cons_of_pos hstays, youngestPost, youngestPost]
        rcases ih hrest with he | ⟨hn, v, hv, hmem⟩
        · exact .inl (by rw [he])
        · have hc : c ≠ b := fun hc => ho (eq_fifteen_of_lanes fun k hk => hlost _ hmem hc k hk (getLsbD_fifteen hk))
          exact .inr ⟨by rw [hn, if_neg hc]; rfl, v, by rw [hv]; rfl, List.mem_cons_of_mem _ hmem⟩

/-- A POST that has lost all four lanes holds the word that memory holds. -/
theorem Coherent.lost_eq (h : Coherent m q) {b : Nat} {v : Word} (hmem : Entry.post b v 15 ∈ q) : v = readWord m b := by
  obtain ⟨-, hagrees⟩ := h.2.1 _ hmem
  exact word_eq_of_lanes fun k hk => (hagrees k hk (getLsbD_fifteen hk)).trans (laneOf_readWord m b hk).symm

theorem Coherent.read_filter (h : Coherent m q) (b : Nat) :
    (youngestPost b (q.filter Entry.stays)).getD (readWord m b) = (youngestPost b q).getD (readWord m b) := by
  rcases youngestPost_filter b h.2.2 with he | ⟨hn, v, hv, hmem⟩
  · rw [he]
  · rw [hn, hv, Option.getD_none, Option.getD_some, h.lost_eq hmem]

theorem Coherent.filter (h : Coherent m q) : Coherent m (q.filter Entry.stays) :=
  ⟨h.1, fun e he => h.2.1 e (List.mem_filter.mp he).1, h.2.2.filter _⟩

variable {a : Nat} {x : WriteWord}

theorem mergeEntry_lostMore {e f : Entry} (h : Entry.lostMore e f) :
    Entry.lostMore (mergeEntry (a, x) e) (mergeEntry (a, x) f) := by
  cases e with
  | fetch b d => cases f <;> exact trivial
  | post b w o =>
    cases f with
    | fetch c d =>
      simp only [mergeEntry]
      split <;> exact trivial
    | post c v p =>
      simp only [mergeEntry]
      by_cases hb : b = a <;> by_cases hc : c = a <;> simp only [hb, hc, if_true, if_false]
      · intro hbc k hk hp
        rw [BitVec.getLsbD_or, Bool.or_eq_true] at hp ⊢
        exact hp.imp_left fun hp => h (by rw [hb, hc]) k hk hp
      · intro he
        exact absurd he.symm hc
      · intro he
        exact absurd he hb
      · exact h

theorem mergeEntry_agrees {e : Entry} (hwf : memWf m = true) (ha : a % 4 = 0) (h : e.agrees m) :
    (mergeEntry (a, x) e).agrees (forwardWord m (a, x)) := by
  cases e with
  | fetch b d => exact trivial
  | post b w o =>
    obtain ⟨hb, hlanes⟩ := h
    simp only [mergeEntry]
    split
    next hba =>
      refine ⟨hb, fun k hk ho => ?_⟩
      rw [hba] at hlanes ⊢
      rw [laneOf_mergeLanes _ _ _ hk, forwardWord, readByte_writeLanes_lane hwf hk]
      by_cases hx : x.lanes.getLsbD k = true
      · rw [if_pos hx, if_pos hx]
      · rw [if_neg hx, if_neg hx]
        rw [BitVec.getLsbD_or, Bool.or_eq_true] at ho
        exact hlanes k hk (ho.resolve_right hx)
    next hba =>
      refine ⟨hb, fun k hk ho => ?_⟩
      rw [forwardWord, readByte_writeLanes_outside hwf (by omega)]
      exact hlanes k hk ho

/-- The merge of a write word, before lost POSTs are withdrawn, keeps queue and memory coherent. -/
theorem Coherent.map_merge (h : Coherent m q) (ha : a % 4 = 0) :
    Coherent (forwardWord m (a, x)) (q.map (mergeEntry (a, x))) := by
  refine ⟨memWf_writeLanes h.1, fun e he => ?_, List.pairwise_map.mpr (h.2.2.imp mergeEntry_lostMore)⟩
  obtain ⟨f, hf, rfl⟩ := List.mem_map.mp he
  exact mergeEntry_agrees h.1 ha (h.2.1 f hf)

theorem youngestPost_map_merge (b : Nat) :
    youngestPost b (q.map (mergeEntry (a, x))) =
      if b = a then (youngestPost a q).map fun w => mergeLanes w x.data x.lanes else youngestPost b q := by
  induction q with
  | nil => simp [youngestPost]
  | cons e q ih =>
    cases e with
    | fetch c d => exact ih
    | post c w o =>
      rw [List.map_cons, mergeEntry]
      by_cases hc : c = a <;> by_cases hb : b = a <;> simp only [hc, hb, if_true, if_false, youngestPost] at ih ⊢ <;> rw [ih]
      · cases youngestPost a q <;> rfl
      · rw [if_neg (Ne.symm hb), if_neg (Ne.symm hb)]
      · cases youngestPost a q <;> simp

theorem Coherent.merge (h : Coherent m q) (ha : a % 4 = 0) :
    Coherent (forwardWord m (a, x)) (mergeWord q (a, x)) := (h.map_merge ha).filter

theorem Coherent.merge_read (h : Coherent m q) (ha : a % 4 = 0) {b : Nat} (hb : b % 4 = 0) :
    readWord (performAll (mergeWord q (a, x)) (forwardWord m (a, x))) b
      = if b = a then mergeLanes (readWord (performAll q m) a) x.data x.lanes else readWord (performAll q m) b := by
  rw [(h.merge ha).read hb, mergeWord, (h.map_merge ha).read_filter, youngestPost_map_merge, h.read ha, h.read hb]
  by_cases hba : b = a
  · rw [if_pos hba, if_pos hba, hba, forwardWord, readWord_writeLanes _ _ _ h.1]
    cases youngestPost a q <;> rfl
  · rw [if_neg hba, if_neg hba, forwardWord, readWord_writeLanes_apart _ _ h.1 (by omega)]

theorem Coherent.perform {w : Word} {o : Lanes} (h : Coherent m (.post a w o :: q)) : Coherent (writeWord m a w) q := by
  obtain ⟨hwf, hagrees, hpair⟩ := h
  obtain ⟨hlost, hrest⟩ := List.pairwise_cons.mp hpair
  obtain ⟨ha, hlanes⟩ := hagrees _ List.mem_cons_self
  refine ⟨memWf_writeWord hwf, fun e he => ?_, hrest⟩
  have hold := hagrees e (List.mem_cons_of_mem _ he)
  cases e with
  | fetch b d => exact trivial
  | post b v p =>
    obtain ⟨hb, hown⟩ := hold
    refine ⟨hb, fun k hk hp => ?_⟩
    by_cases hab : a = b
    · have ho := hlost _ he hab k hk hp
      rw [← hab, readByte_writeWord hwf hk, hlanes k hk ho, hown k hk hp, hab]
    · rw [writeWord, readByte_writeLanes_outside hwf (by omega)]
      exact hown k hk hp

theorem Coherent.place (h : Coherent m q) (ha : a % 4 = 0) (w : Word) : Coherent m (q ++ [.post a w 0]) := by
  refine ⟨h.1, fun e he => ?_, List.pairwise_append.mpr ⟨h.2.2, List.pairwise_singleton _ _, fun e _ f hf => ?_⟩⟩
  · rcases List.mem_append.mp he with he | he
    · exact h.2.1 e he
    · rw [List.mem_singleton.mp he]
      exact ⟨ha, fun k _ hk => by simp at hk⟩
  · rw [List.mem_singleton.mp hf]
    cases e with
    | fetch b d => exact trivial
    | post b v p => exact fun _ k _ hk => by simp at hk

end

/-- Settles O6: a read answers what memory will hold, and merge, perform and place keep it so. -/
theorem queueIsMemoryToBe : Obligations.QueueIsMemoryToBe := by
  refine ⟨fun m q a => performAll_readWord, fun m q a x h ha => ⟨h.merge ha, fun b => h.merge_read ha⟩,
    fun m q a w o h => ⟨h.perform, rfl⟩, fun m q a w h ha => ⟨h.place ha w, fun b hb => ?_⟩⟩
  rw [(h.place ha w).read hb, h.read hb, youngestPost_append]
  by_cases hba : b = a
  · simp [youngestPost, hba]
  · simp [youngestPost, hba, Ne.symm hba]

/-! ## The RESET pin (R139, R144, R145) -/

/-- What the held transactions make of memory and of the read data as they are forwarded (R139). -/
theorem forwardHeld_eq (ts : List Txn) (s : State) :
    ((ts.foldl forwardDirect s).mem, (ts.foldl forwardDirect s).path.reads) =
        ts.foldl (fun (x : List Host.Cell × List Reply) t =>
          match t with
          | .write w => ((w.words.mapIdx fun i y => (burstAddr w.addr i, y)).foldl forwardWord x.1, x.2)
          | .read r =>
            (x.1, x.2 ++ [{ addr := r.addr, data := (List.range r.len).map fun i => readWord x.1 (burstAddr r.addr i) }]))
          (s.mem, s.path.reads) ∧
      (ts.foldl forwardDirect s).pending = s.pending := by
  induction ts generalizing s with
  | nil => exact ⟨rfl, rfl⟩
  | cons t ts ih =>
    obtain ⟨hpair, hpending⟩ := ih (forwardDirect s t)
    refine ⟨hpair.trans ?_, hpending.trans ?_⟩
    · rw [List.foldl_cons]
      cases t with
      | write w => simp only [forwardDirect, placedWords_eq_mapIdx, State.setMem_mem, State.setMem_path]
      | read r => simp only [forwardDirect, returnData, readAddrs, State.setPath_mem, State.setPath_path, List.map_map,
          Function.comp_def]
    · cases t <;> rfl

theorem blank_of_forwardHeld (ts : List Txn) (s : State) {x : List Host.Cell × List Reply}
    (h : ((ts.foldl forwardDirect s).mem, (ts.foldl forwardDirect s).path.reads) = x) :
    State.blank (ts.foldl forwardDirect s).mem (ts.foldl forwardDirect s).path.reads (ts.foldl forwardDirect s).pending
      = State.blank x.1 x.2 s.pending := by
  rw [(forwardHeld_eq ts s).2, ← h]

theorem exec_resetAsserted {s : State} (h : s.resetLow = false) (b : Bool) :
    exec (.resetAsserted b) s = .next (assertReset b s) := by
  show Host.Outcome.next (if s.resetLow = true then s else assertReset b s) = _
  rw [h, if_neg (by decide)]

/-- The state as RESET is released, with the straps latched and the first load begun, before its FETCHes are placed. -/
def resetReleasedState (a1 a0 : Bool) (s : State) : State :=
  beginLoad (((State.blank s.mem s.path.reads s.pending).setResetLow false).setAnchor (BitVec.ofBool a1 ++ BitVec.ofBool a0))

/-- The four header FETCHes of a load (R146). -/
theorem planFetches_header (s : State) :
    planFetches s 0 4 = [.fetch (s.base + 0x400) .planLoader, .fetch (s.base + 0x404) .planLoader,
      .fetch (s.base + 0x408) .planLoader, .fetch (s.base + 0x40C) .planLoader] := rfl

theorem releaseReset_eq (a1 a0 : Bool) (s : State) :
    releaseReset a1 a0 s =
      ((resetReleasedState a1 a0 s).setPath { (resetReleasedState a1 a0 s).path with
        queue := planFetches (resetReleasedState a1 a0 s) 0 4 }).setLoader
        { (resetReleasedState a1 a0 s).loader with items := [] } :=
  settle_fetches (s := resetReleasedState a1 a0 s) rfl rfl rfl rfl rfl (Nat.le_of_ble_eq_true rfl)

theorem resetReleasedState_base (a1 a0 : Bool) (s : State) :
    (resetReleasedState a1 a0 s).base = (if a1 then 0x800000 else 0) + (if a0 then 0x400000 else 0) := by
  show (BitVec.ofBool a1 ++ BitVec.ofBool a0).toNat * Config.anchorStride = _
  cases a1 <;> cases a0 <;> decide

/-- Settles O7: field by field from the definitions; the placing of the four FETCHes is `settle_fetches`. -/
theorem resetPin : Obligations.ResetPin := by
  refine ⟨fun s hs => ⟨?_, fun a w o q hq => ?_, fun a d q hq => ?_⟩, fun m r p => ?_, fun s a1 a0 hs => ?_⟩
  · rw [exec_resetAsserted hs]
    exact congrArg _ (blank_of_forwardHeld s.path.held s (forwardHeld_eq _ _).1)
  · rw [exec_resetAsserted hs]
    have hport : finishOnPort s = s.setMem (writeWord s.mem a w) := by rw [finishOnPort, hq]
    have hlost := blank_of_forwardHeld s.path.held (s.setMem (writeWord s.mem a w)) (forwardHeld_eq _ _).1
    rw [assertReset, if_pos rfl, hport]
    exact congrArg _ hlost
  · rw [exec_resetAsserted hs]
    have hport : finishOnPort s = s := by rw [finishOnPort, hq]
    rw [assertReset, if_pos rfl, hport]
    exact congrArg _ (blank_of_forwardHeld s.path.held s (forwardHeld_eq _ _).1)
  · exact ⟨rfl, rfl, rfl, rfl, rfl, rfl, rfl, rfl, rfl, rfl, rfl⟩
  · intro base
    have hexec : exec (.resetReleased a1 a0) s = .next (releaseReset a1 a0 s) := by
      show Host.Outcome.next (if s.resetLow = true then releaseReset a1 a0 s else s) = _
      rw [hs, if_pos rfl]
    have hbase : (releaseReset a1 a0 s).base = base := by
      rw [releaseReset_eq]
      exact resetReleasedState_base a1 a0 s
    refine ⟨releaseReset a1 a0 s, hexec, hbase, ?_⟩
    rw [releaseReset_eq, planFetches_header, resetReleasedState_base]
    rfl

end Sys2Proof.Machine
end

section
/-! PROOFS. What the tracker's operations make of a state: notices, windows, mould ids and accepted words. -/

namespace Sys2Proof.Machine

/-! ## Notices -/

/-- The report writer once a notice has been raised, `running` being whether the run state is RUNNING (R120, R127). -/
def Report.raised (running : Bool) (g : Option Gate) (n : Notice) (r : Report) : Report :=
  match running, r.ring with
  | true, some ring =>
    if bitAt ring.kindMask n.kind.code then
      { r with seq := (r.seq + 1) % 65536, items := r.items ++ [.notice n r.seq g] }
    else r
  | true, none => r
  | false, _ => r

/-- Raising a notice reads the run state and changes the report writer. -/
theorem raiseNotice_eq (g : Option Gate) (n : Notice) (s : State) :
    raiseNotice g n s = s.setReport (s.report.raised (s.loader.run == .running) g n) := by
  unfold raiseNotice
  split
  next r hrun hring =>
    rw [hrun]
    simp only [Report.raised, hring, beq_self_eq_true]
    split <;> rfl
  next hrun hring =>
    rw [hrun]
    simp only [Report.raised, hring, beq_self_eq_true]
    rfl
  next hrun => rw [hrun]; rfl
  next hrun => rw [hrun]; rfl

theorem Report.raised_published (b : Bool) (g : Option Gate) (n : Notice) (r : Report) (ws : List Word) :
    Report.raised b g n { r with published := ws } = { Report.raised b g n r with published := ws } := by
  cases b with
  | false => rfl
  | true =>
    obtain ⟨_, _, _, _, _, _, _ | ring, _⟩ := r
    · rfl
    · unfold Report.raised
      dsimp only
      split <;> rfl

theorem raiseNotice_setPublished (g : Option Gate) (n : Notice) (ws : List Word) (s : State) :
    raiseNotice g n (setPublished ws s) = setPublished ws (raiseNotice g n s) := by
  rw [raiseNotice_eq, raiseNotice_eq]
  exact congrArg s.setReport (Report.raised_published ..)

/-! ## Lists at ascending addresses -/

theorem map_mapIdx {α β γ : Type} (g : β → γ) (f : Nat → α → β) (xs : List α) :
    (xs.mapIdx f).map g = xs.mapIdx fun i x => g (f i x) := by
  apply List.ext_getElem?
  simp [Function.comp_def]

theorem wordsFrom_eq_mapIdx (a : Nat) (ws : List Word) : wordsFrom a ws = ws.mapIdx fun i w => (a + 4 * i, w) := by
  induction ws generalizing a with
  | nil => rfl
  | cons w ws ih =>
    rw [wordsFrom, ih, List.mapIdx_cons]
    congr 2
    funext i x
    rw [show a + 4 + 4 * i = a + 4 * (i + 1) by omega]

theorem postEntries_eq_mapIdx (a : Nat) (ws : List Word) :
    postEntries a ws = ws.mapIdx fun i w => .post (a + 4 * i) w 0 := by
  rw [postEntries, wordsFrom_eq_mapIdx, map_mapIdx]

/-! ## Assemblers -/

theorem set_getD_eq_modify {α : Type} (xs : List α) (i : Nat) (d : α) (f : α → α) :
    xs.set i (f (xs.getD i d)) = xs.modify i f := by
  apply List.ext_getElem?
  intro j
  rw [List.getElem?_set, List.getElem?_modify, List.getD_eq_getElem?_getD]
  by_cases h : i = j
  · subst h
    by_cases hi : i < xs.length
    · simp [hi]
    · simp [hi]
  · simp [h]

theorem openAssemblers_eq_mapIdx (n : Nat) (xs : List Assembler) :
    openAssemblers n xs = xs.mapIdx fun i x => if i < n then x.windowOpened else x := by
  induction xs generalizing n with
  | nil => rw [openAssemblers, List.mapIdx_nil]
  | cons x xs ih =>
    cases n with
    | zero =>
      have hsame : (x :: xs).mapIdx (fun _ y => y) = x :: xs := List.ext_getElem? fun i => by
        simp only [List.getElem?_mapIdx, Option.map_id_fun', id]
      simp only [Nat.not_lt_zero, if_false, hsame]
      rfl
    | succ n => simp [openAssemblers, ih, List.mapIdx_cons]

theorem emptySlot_eq_modify (i : Nat) (b : Bool) (s : State) :
    emptySlot i b s = s.setAsm (s.withoutStaged i b) :=
  congrArg s.setAsm (set_getD_eq_modify s.asm i .start
    (fun x => if b then { x with slot1 := none } else { x with slot0 := none }))

/-! ## Windows -/

/-- The assembler with index `i` once the evaluator has dropped the frame it works on, `busy` being that frame's slot. -/
def Assembler.dropped (busy : Option (Nat × Bool)) (i : Nat) (x : Assembler) : Assembler :=
  { x with
    slot0 := if busy = some (i, false) then none else x.slot0
    slot1 := if busy = some (i, true) then none else x.slot1 }

theorem dropBusy_eq (s : State) :
    dropBusy s = (s.setAsm (s.asm.mapIdx (Assembler.dropped s.eval.busy))).setEval { s.eval with busy := none } := by
  unfold dropBusy
  split
  next h =>
    have hasm : s.asm.mapIdx (Assembler.dropped none) = s.asm := by
      apply List.ext_getElem?
      intro i
      rw [List.getElem?_mapIdx]
      cases s.asm[i]? <;> rfl
    rw [h, hasm, ← h]
    rfl
  next i b h =>
    have hasm : s.withoutStaged i b = s.asm.mapIdx (Assembler.dropped (some (i, b))) := by
      apply List.ext_getElem?
      intro j
      rw [State.withoutStaged, List.getElem?_modify, List.getElem?_mapIdx]
      by_cases hij : i = j
      · subst hij
        cases b <;> cases s.asm[i]? <;> simp [Assembler.dropped]
      · cases s.asm[j]? <;> simp [Assembler.dropped, hij]
    rw [emptySlot_eq_modify, hasm, h]

theorem openWindow_eq {s : State} {p : Nat} {c : Context} (pl : Plan) (cycle : Nat) (late : Bool)
    (ha : s.tracker.active = some p) (hc : s.table.contexts[p]? = some c) :
    openWindow pl cycle late s = s.windowOpened pl c cycle late := by
  have hctx : (s.tracker.active.bind fun p => s.table.contexts[p]?) = some c := by rw [ha]; exact hc
  unfold openWindow
  rw [hctx, openAssemblers_eq_mapIdx]
  rfl

theorem abandonBegun_eq (r : AbandonReason) (s : State) : abandonBegun r s = s.abandoned r.code := by
  have hasm : stopSilence (s.asm.mapIdx (Assembler.dropped s.eval.busy))
      = s.asm.mapIdx fun i x => { x.dropped s.eval.busy i with silenceTimer := none } := map_mapIdx ..
  unfold abandonBegun
  rw [raiseNotice_eq, dropBusy_eq, State.abandoned, raiseNotice_eq]
  exact congrArg (State.setAsm _) hasm

/-- An abandon releases waiting work once the window has been abandoned (R11, R15). -/
theorem abandonWindow_eq_release (r : AbandonReason) (s : State) :
    abandonWindow r s = releaseAtAbandon (s.abandoned r.code) := by
  rw [abandonWindow_eq, abandonBegun_eq]

/-! ## Waiting work -/

section
variable {s : State} {f : Fn} {args : List Nat} {ph : WorkPhase}

theorem arg_of_work (h : s.mail.work = some { fn := f, args := args, phase := ph }) (i : Nat) :
    s.arg i = args.getD i 0 := by
  rw [State.arg, h]

theorem argProfile_of_work {pl : Plan} {q : ProfilePlan} (h : s.mail.work = some { fn := f, args := args, phase := ph })
    (hpl : s.loader.plan = some pl) (hq : pl.profiles[args.getD 0 0]? = some q) : s.argProfile = some (pl, q) := by
  rw [State.argProfile, hpl, arg_of_work h]
  exact congrArg (Option.map _) hq

theorem complete_of_work (r : Result) (h : s.mail.work = some { fn := f, args := args, phase := ph }) :
    complete r s = s.finished f args r := by
  rw [complete, h]
  rfl

theorem setPhase_of_work (ph' : WorkPhase) (h : s.mail.work = some { fn := f, args := args, phase := ph }) :
    setPhase ph' s = s.setMail { s.mail with work := some { fn := f, args := args, phase := ph' } } := by
  rw [setPhase, h]
  rfl

theorem takeSnapshot_of_work {pl : Plan} {q : ProfilePlan} {c : Context} {p a : Nat} (kind : SnapshotKind)
    (h : s.mail.work = some { fn := .saveContext, args := [p, a], phase := ph }) (hpl : s.loader.plan = some pl)
    (hq : pl.profiles[p]? = some q) (hc : s.table.contexts[p]? = some c) :
    takeSnapshot kind s = s.snapshot pl q c kind p a := by
  unfold takeSnapshot
  rw [argProfile_of_work h hpl hq, arg_of_work h, arg_of_work h, show s.table.contexts[[p, a].getD 0 0]? = some c from hc]
  simp only [postEntries_eq_mapIdx]
  exact setPhase_of_work _ h

theorem publishActivation_of_context {p : Nat} {c : Context} (h : s.table.contexts[p]? = some c) :
    publishActivation p s = setPublished (activationBank s p c) s := by
  rw [publishActivation, h]

theorem commitImage_active {pl : Plan} {q : ProfilePlan} {p a : Nat}
    (h : s.mail.work = some { fn := .restoreContext, args := [p, a], phase := ph }) (hpl : s.loader.plan = some pl)
    (hq : pl.profiles[p]? = some q) (hp : p < s.table.contexts.length) (ha : s.tracker.active = some p) :
    commitImage s = s.committed q p a := by
  unfold commitImage
  rw [argProfile_of_work h hpl hq, arg_of_work h]
  simp only [List.getD_cons_zero, ha, if_true]
  rw [publishActivation_of_context (c := readContext q s.table.buf) (by simp [hp])]
  exact complete_of_work (ph := ph) _ h

theorem commitImage_inactive {pl : Plan} {q : ProfilePlan} {p a : Nat}
    (h : s.mail.work = some { fn := .restoreContext, args := [p, a], phase := ph }) (hpl : s.loader.plan = some pl)
    (hq : pl.profiles[p]? = some q) (ha : s.tracker.active ≠ some p) :
    commitImage s = (s.setTable { s.table with
      contexts := s.table.contexts.set p (readContext q s.table.buf), buf := [] }).finished .restoreContext [p, a] .ok := by
  unfold commitImage
  rw [argProfile_of_work h hpl hq, arg_of_work h]
  simp only [List.getD_cons_zero, ha, if_false]
  exact complete_of_work (ph := ph) _ h

end

theorem releaseAtAbandon_eq {s t : State} {pl : Plan} (hpl : s.loader.plan = some pl) (h : AbandonReleases pl s t) :
    releaseAtAbandon s = t := by
  unfold releaseAtAbandon
  rcases h with ⟨hno, rfl⟩ | ⟨p, a, q, c, hw, hq, hc, rfl⟩ | ⟨p, a, q, hw, hq, hp, ha, rfl⟩
  · split
    · rfl
    next w hw =>
      obtain ⟨hwait, hcheck⟩ := hno w hw
      split
      next hph _ => exact absurd hph hwait
      next hph => exact absurd hph hcheck
      · rfl
  · rw [hw]
    exact congrArg settle (takeSnapshot_of_work .atAbandon hw hpl hq hc)
  · rw [hw]
    exact congrArg settle (commitImage_active hw hpl hq hp ha)

end Sys2Proof.Machine
end

section
/-! PROOFS. Accepted words, mould ids, windows that open, close and are abandoned, and step 6 (chapter 1). -/

namespace Sys2Proof.Machine

/-! ## State words -/

theorem bitsAt_eq (w : Word) (lo n : Nat) : bitsAt w lo n = w.toNat / 2 ^ lo % 2 ^ n := by
  rw [bitsAt, Nat.shiftRight_eq_div_pow]

theorem bitsAt_top (w : Word) (lo : Nat) : bitsAt w lo (32 - lo) = w.toNat / 2 ^ lo := by
  rw [bitsAt_eq, Nat.mod_eq_of_lt]
  rw [Nat.div_lt_iff_lt_mul (Nat.two_pow_pos lo), ← pow_add]
  exact lt_of_lt_of_le w.isLt (Nat.pow_le_pow_right (by decide) (by omega))

theorem phase_ofCode_iff (n : Nat) (ph : Phase) :
    Phase.ofCode n = some ph ↔ (n = 0 ∧ ph = .idle) ∨ (n = 1 ∧ ph = .fill) ∨ (n = 2 ∧ ph = .vibrate) ∨
      (n = 3 ∧ ph = .demould) ∨ (n = 4 ∧ ph = .stopped) := by
  match n with
  | 0 | 1 | 2 | 3 | 4 => simp [Phase.ofCode, eq_comm]
  | n + 5 => simp [Phase.ofCode]

theorem readStateWord_eq_some_iff (d : Word) (w : StateWord) :
    readStateWord d = some w ↔ Phase.ofCode (bitsAt d 20 4) = some w.phase ∧ bitsAt d 24 8 = 0 ∧
      w.mould = bitsAt d 16 4 ∧ w.cycle = bitsAt d 0 16 := by
  obtain ⟨ph, mould, cycle⟩ := w
  unfold readStateWord
  split
  next v hv =>
    split
    next hz => simp only [hv, hz, Option.some.injEq, StateWord.mk.injEq, true_and, eq_comm]
    next hz => simp [hz]
  next hv => simp [hv]

/-- Settles O8: the fields of an accepted word are those of 11.3, and a word that is not accepted reaches no block. -/
theorem stateWordAccepted : Obligations.StateWordAccepted := by
  refine ⟨fun d w => ?_, fun s pl a d l hs ha hat hno => ?_⟩
  · rw [readStateWord_eq_some_iff, phase_ofCode_iff, bitsAt_top d 24]
    simp only [bitsAt_eq, pow_zero, Nat.div_one]
    constructor
    · rintro ⟨hph, hz, hm, hc⟩
      exact ⟨hz, hc, hm, hph⟩
    · rintro ⟨hz, hc, hm, hph⟩
      exact ⟨hph, hz, hm, hc⟩
  · have hrow : Instr.pressStateWord (oneWord a d l) ∈ writeRows (oneWord a d l) := by simp [writeRows]
    rw [exec_oneWord ha hs hrow, snoopWord_stateWord (m := mergeAndForward (oneWord a d l) s) _ hat rfl rfl]
    unfold examineStateWord
    split
    next w hw =>
      rcases hno with hl | hn
      · rw [if_neg hl]
      · cases hn.symm.trans hw
    · rfl

/-! ## A word that has been taken -/

theorem wordTaken_eq (pl : Plan) (w : StateWord) (s : State) :
    ∃ o, s.wordTaken pl w = (s.setTracker { s.tracker with last := some w }).setOut o := by
  unfold State.wordTaken
  simp only
  split
  · unfold advanceMarks
    simp only
    split
    · exact ⟨_, rfl⟩
    · exact ⟨s.out, rfl⟩
  · exact ⟨s.out, rfl⟩

section
variable (pl : Plan) (w : StateWord) (s : State)

@[simp] theorem wordTaken_tracker : (s.wordTaken pl w).tracker = { s.tracker with last := some w } := by
  obtain ⟨o, ho⟩ := wordTaken_eq pl w s
  rw [ho]
  rfl

@[simp] theorem wordTaken_loader : (s.wordTaken pl w).loader = s.loader := by
  obtain ⟨o, ho⟩ := wordTaken_eq pl w s
  rw [ho]
  rfl

@[simp] theorem wordTaken_table : (s.wordTaken pl w).table = s.table := by
  obtain ⟨o, ho⟩ := wordTaken_eq pl w s
  rw [ho]
  rfl

@[simp] theorem wordTaken_asm : (s.wordTaken pl w).asm = s.asm := by
  obtain ⟨o, ho⟩ := wordTaken_eq pl w s
  rw [ho]
  rfl

@[simp] theorem mergeAndForward_tracker (t : WriteBurst) : (mergeAndForward t s).tracker = s.tracker := rfl
@[simp] theorem mergeAndForward_loader (t : WriteBurst) : (mergeAndForward t s).loader = s.loader := rfl
@[simp] theorem mergeAndForward_table (t : WriteBurst) : (mergeAndForward t s).table = s.table := rfl
@[simp] theorem mergeAndForward_asm (t : WriteBurst) : (mergeAndForward t s).asm = s.asm := rfl

/-- A word is handled in three parts: it is taken, its mould id acts, and its phase acts. -/
theorem handleWord_eq : handleWord pl w s =
    clearAbandoned w (abandonsWindow pl w s) (phasePart pl w (mouldPart pl w.mould (s.wordTaken pl w))) := by
  have hiff : demouldEntry w s.tracker.last = true ↔
      w.phase = .demould ∧ (s.tracker.last.map fun v => v.phase) ≠ some .demould := by
    rw [demouldEntry_iff]
    cases s.tracker.last <;> simp
  unfold handleWord State.wordTaken
  simp only [hiff]

end

section
variable {s : State} {pl : Plan} {w : StateWord} {p : Nat} {q : ProfilePlan}

theorem activeMould_of_active (ha : s.tracker.active = some p) (hq : pl.profiles[p]? = some q) :
    activeMould pl s = some q.mouldId := by
  rw [activeMould, ha, Option.bind_some, hq]
  rfl

theorem activeMould_ne {id : Nat} (h : ∀ p q, s.tracker.active = some p → pl.profiles[p]? = some q → q.mouldId ≠ id) :
    activeMould pl s ≠ some id := by
  intro he
  obtain ⟨p, ha, hp⟩ := Option.bind_eq_some_iff.mp he
  obtain ⟨q, hq, hid⟩ := Option.map_eq_some_iff.mp hp
  exact h p q ha hq hid

/-- A word for the active mould acts by its phase alone, and abandons a window only by STOPPED in OPEN. -/
theorem handleWord_same (ha : s.tracker.active = some p) (hq : pl.profiles[p]? = some q) (hm : w.mould = q.mouldId) :
    handleWord pl w s =
      clearAbandoned w (s.isOpen && w.phase == .stopped) (phasePart pl w (s.wordTaken pl w)) := by
  have hactive : activeMould pl s = some w.mould := hm ▸ activeMould_of_active ha hq
  have htaken : activeMould pl (s.wordTaken pl w) = some w.mould :=
    hm ▸ activeMould_of_active (by rw [wordTaken_tracker]; exact ha) hq
  rw [handleWord_eq, mouldPart, if_pos htaken, abandonsWindow, hactive]
  simp

theorem clearAbandoned_true (s : State) : clearAbandoned w true s = s := if_neg nofun

theorem clearAbandoned_vibrate (h : w.phase = .vibrate) (b : Bool) (s : State) : clearAbandoned w b s = s :=
  if_neg fun hn => hn.1 h

theorem clearAbandoned_other (h : w.phase ≠ .vibrate) (s : State) :
    clearAbandoned w false s = s.setTracker { s.tracker with lastAbandoned := none } := if_pos ⟨h, rfl⟩

theorem phasePart_armed (h : s.tracker.state = .armed) : phasePart pl w s = armedPhase pl w s := by
  rw [phasePart, h]

theorem phasePart_opened (h : s.tracker.state = .opened) : phasePart pl w s = openPhase w s := by
  rw [phasePart, h]

theorem phasePart_noMould (h : s.tracker.state = .noMould) : phasePart pl w s = s := by
  rw [phasePart, h]

theorem armedPhase_vibrate (h : w.phase = .vibrate) :
    armedPhase pl w s = if s.tracker.lastAbandoned = some w.cycle then s else openWindow pl w.cycle false s := by
  rw [armedPhase, h]

theorem armedPhase_other (h : w.phase ≠ .vibrate) : armedPhase pl w s = s := by
  unfold armedPhase
  split
  next hv => exact absurd hv h
  all_goals rfl

end

/-! ## Opening -/

theorem offsetInUse_of_mem {c : Context} {x : ChannelCtx} (hn : (c.channels.map fun y => y.number).Nodup)
    (hx : x ∈ c.channels) : offsetInUse c x.number = x.offset := by
  unfold offsetInUse
  split
  next y hy =>
    have hnum : y.number = x.number := by simpa using List.find?_some hy
    rw [List.inj_on_of_nodup_map hn (List.mem_of_find?_eq_some hy) hx hnum]
  next hnone => simpa using List.find?_eq_none.mp hnone x hx

theorem offsetInUse_of_not_mem {c : Context} {n : Nat} (h : ∀ x ∈ c.channels, x.number ≠ n) : offsetInUse c n = 0 := by
  have hnone : (c.channels.find? fun x => x.number == n) = none := List.find?_eq_none.mpr (by simpa using h)
  rw [offsetInUse, hnone]

/-- Settles O9: by the phase of the word, and by the last abandoned cycle for VIBRATE. -/
theorem vibrateOpensWindow : Obligations.VibrateOpensWindow := by
  refine ⟨fun s pl a d w p q c hs ha hat hw harmed hactive hq hm hc => ?_, fun c x hn hx => offsetInUse_of_mem hn hx,
    fun c n h => offsetInUse_of_not_mem h⟩
  have hends := endsIn_handleWord hs ha hat hw
  have hclosed : (mergeAndForward (oneWord a d 15) s).isOpen = false := by simp [State.isOpen, harmed]
  have htaken : ((mergeAndForward (oneWord a d 15) s).wordTaken pl w).tracker.state = .armed := by simpa using harmed
  rw [handleWord_same (s := mergeAndForward (oneWord a d 15) s) hactive hq hm, hclosed, Bool.false_and, phasePart_armed htaken] at hends
  refine ⟨fun hv hnot => ?_, fun hv hlast => ?_, fun hv => ?_⟩
  · rw [clearAbandoned_vibrate hv, armedPhase_vibrate hv, if_neg (by simpa using hnot),
      openWindow_eq pl _ _ (by simpa using hactive) (by simpa using hc)] at hends
    exact hends
  · rw [clearAbandoned_vibrate hv, armedPhase_vibrate hv, if_pos (by simpa using hlast)] at hends
    exact hends
  · rw [armedPhase_other hv, clearAbandoned_other hv] at hends
    exact hends

/-! ## Closing -/

/-- In OPEN every phase but STOPPED and a repeated VIBRATE closes the window. -/
theorem openPhase_closes {w : StateWord} {s : State} (hs : w.phase ≠ .stopped)
    (hv : w.phase = .vibrate → w.cycle ≠ s.tracker.openCycle) :
    openPhase w s = closeWindow (w.phase == .vibrate) s := by
  unfold openPhase
  split
  next h => rw [if_neg (hv h), h]; rfl
  next h => rw [h]; rfl
  next h => rw [h]; rfl
  next h => rw [h]; rfl
  next h => exact absurd h hs

theorem openPhase_repeats {w : StateWord} {s : State} (hv : w.phase = .vibrate) (hc : w.cycle = s.tracker.openCycle) :
    openPhase w s = s := by
  rw [openPhase, hv]
  exact if_pos hc

/-- Settles O10: in OPEN the word closes the window or is the one that opened it; in CLOSING it only leaves its flag. -/
theorem wordClosesWindow : Obligations.WordClosesWindow := by
  refine ⟨fun s pl a d w p q hs ha hat hw hopen hactive hq hm => ?_, fun s pl a d w hs ha hat hw hclosing => ?_⟩
  · have hends := endsIn_handleWord hs ha hat hw
    have htaken : ((mergeAndForward (oneWord a d 15) s).wordTaken pl w).tracker.state = .opened := by simpa using hopen
    rw [handleWord_same (s := mergeAndForward (oneWord a d 15) s) hactive hq hm, phasePart_opened htaken] at hends
    refine ⟨fun hst hv => ?_, fun hv hc => ?_⟩
    · have hnot : (w.phase == Phase.stopped) = false := by simpa using hst
      rw [hnot, Bool.and_false, openPhase_closes hst (by simpa using hv)] at hends
      by_cases hvib : w.phase = .vibrate
      · rw [clearAbandoned_vibrate hvib] at hends
        simpa [closeWindow, stopSilence, hvib] using hends
      · rw [clearAbandoned_other hvib] at hends
        simp only [closeWindow, stopSilence, beq_eq_false_iff_ne.mpr hvib, wordTaken_tracker, wordTaken_asm,
          Bool.or_false] at hends ⊢
        rw [if_neg hvib]
        exact hends
    · rw [openPhase_repeats hv (by simpa using hc), clearAbandoned_vibrate hv] at hends
      exact hends
  · have hends := endsIn_handleWord hs ha hat hw
    have htaken : ((mergeAndForward (oneWord a d 15) s).wordTaken pl w).tracker.state = .closing := by simpa using hclosing
    have hclosed : (mergeAndForward (oneWord a d 15) s).isOpen = false := by simp [State.isOpen, hclosing]
    rw [handleWord_eq, mouldPart_of_closing pl _ htaken, phasePart_of_closing pl w htaken, abandonsWindow, hclosed,
      Bool.false_and] at hends
    by_cases hvib : w.phase = .vibrate
    · rw [clearAbandoned_vibrate hvib] at hends
      simpa [closingPhase, hvib] using hends
    · have hsame : closingPhase w ((mergeAndForward (oneWord a d 15) s).wordTaken pl w) =
          (mergeAndForward (oneWord a d 15) s).wordTaken pl w := by
        unfold closingPhase
        split
        next h => exact absurd h hvib
        all_goals rfl
      rw [clearAbandoned_other hvib, hsame] at hends
      simpa [hvib, beq_eq_false_iff_ne.mpr hvib] using hends

/-! ## Abandoning -/

@[simp] theorem abandoned_loader (code : Nat) (s : State) : (s.abandoned code).loader = s.loader := by
  rw [State.abandoned, raiseNotice_eq]
  rfl

theorem limitReached_of {s : State} {pl : Plan} {n : Nat} (hpl : s.runningPlan = some pl) (ho : s.tracker.state = .opened)
    (hn : s.tracker.limitTimer = some n) (hlim : pl.windowLimit ≤ n) : limitReached s = true := by
  rw [limitReached, hpl, hn]
  simp [State.isOpen, ho, hlim]

/-- Settles O11: both paths abandon the window and then release the waiting work. -/
theorem windowAbandoned : Obligations.WindowAbandoned := by
  refine ⟨fun s v pl a d w p q hs ha hat hw hst hopen hactive hq hm hrel => ?_,
    fun s v pl n hlow hpl hopen hn hlim hrel => ?_⟩
  · have hends := endsIn_handleWord hs ha hat hw
    have htaken : ((mergeAndForward (oneWord a d 15) s).wordTaken pl w).tracker.state = .opened := by simpa using hopen
    have hphase : openPhase w ((mergeAndForward (oneWord a d 15) s).wordTaken pl w) = v := by
      rw [openPhase, hst]
      refine (abandonWindow_eq_release _ _).trans (releaseAtAbandon_eq ?_ hrel)
      simpa using (runningPlan_eq_some hat.1).2
    have hopen' : (mergeAndForward (oneWord a d 15) s).isOpen = true := by simp [State.isOpen, hopen]
    rw [handleWord_same (s := mergeAndForward (oneWord a d 15) s) hactive hq hm, phasePart_opened htaken, hphase, hopen', hst,
      show (true && Phase.stopped == .stopped) = true from rfl, clearAbandoned_true] at hends
    exact hends
  · have hreach := limitReached_of hpl hopen hn hlim
    have hexec : exec .windowLimitExpiry s = .next (settle (abandonWindow .overlong s)) := by
      simp [exec, execWindowLimitExpiry, hlow, hreach]
    rw [hexec, abandonWindow_eq_release, show AbandonReason.overlong.code = 3 from rfl,
      releaseAtAbandon_eq (by simpa using (runningPlan_eq_some hpl).2) hrel]
    exact endsIn_settle v

/-! ## Mould ids -/

section
variable {pl : Plan} {id : Nat} {s t : State}

theorem profileOf_eq_some {p : Nat} {q : ProfilePlan} (hq : pl.profiles[p]? = some q) (hid : q.mouldId = id)
    (hfirst : ∀ i v, i < p → pl.profiles[i]? = some v → v.mouldId ≠ id) : pl.profileOf id = some p := by
  obtain ⟨hp, hget⟩ := List.getElem?_eq_some_iff.mp hq
  refine List.findIdx?_eq_some_iff_getElem.mpr ⟨hp, by simp [hget, hid], fun i hi => ?_⟩
  simpa using hfirst i _ hi (List.getElem?_eq_getElem (hi.trans hp))

theorem profileOf_eq_none (h : ∀ q ∈ pl.profiles, q.mouldId ≠ id) : pl.profileOf id = none :=
  List.findIdx?_eq_none_iff.mpr fun q hq => by simpa using h q hq

theorem activate_eq {p : Nat} {q : ProfilePlan} {c : Context} (hq : pl.profiles[p]? = some q)
    (hc : s.table.contexts[p]? = some c) :
    let u := (s.setTracker { s.tracker with state := .armed, active := some p, unknownNote := none }).setEval
      { s.eval with held := none }
    activate pl p s = setPublished (activationBank u p c)
      (raiseNotice none
        { kind := .activeProfile, profile := some p, subject := q.mouldId, cycle := s.tracker.openCycle, detail := 0 } u) := by
  intro u
  unfold activate
  rw [hq]
  simp only [raiseNotice_eq]
  exact publishActivation_of_context hc

theorem applyMould_zero (s : State) : applyMould pl 0 s = publishZeros (enterNoMould none s) := rfl

theorem applyMould_unknown (h : pl.profileOf id = none) (h0 : id ≠ 0) :
    applyMould pl id s =
      if s.tracker.unknownNote = some id then publishZeros (enterNoMould (some id) s)
      else raiseNotice none
        { kind := .mouldUnknown, profile := none, subject := id, cycle := s.tracker.openCycle, detail := 0 }
        (publishZeros (enterNoMould (some id) s)) := by
  rw [applyMould, if_neg h0, h]
  dsimp only
  split
  · rfl
  · exact (raiseNotice_setPublished ..).symm

theorem applyMould_eq (h : MouldApplies pl id s t) : applyMould pl id s = t := by
  rcases h with ⟨p, q, c, h0, hq, hid, hfirst, hc, rfl⟩ | ⟨hno, rfl⟩
  · rw [applyMould, if_neg h0, profileOf_eq_some hq hid hfirst]
    exact hid ▸ activate_eq hq hc
  · by_cases h0 : id = 0
    · subst h0
      rw [applyMould_zero]
      rfl
    · have hall := hno.resolve_left h0
      rw [applyMould_unknown (profileOf_eq_none hall) h0]
      simp only [h0, if_false, false_or]
      rfl

/-- A mould id that has been applied leaves ARMED with an active profile, or NO MOULD without one, and touches neither the
last word, the last abandoned cycle nor the deferred-open flag. -/
theorem MouldApplies.tracker (h : MouldApplies pl id s t) :
    ((t.tracker.state = .armed ∧ t.tracker.active ≠ none) ∨ (t.tracker.state = .noMould ∧ t.tracker.active = none)) ∧
      t.tracker.last = s.tracker.last ∧ t.tracker.deferredOpen = s.tracker.deferredOpen := by
  rcases h with ⟨p, q, c, -, -, -, -, -, rfl⟩ | ⟨-, rfl⟩
  · simp only [raiseNotice_eq]
    exact ⟨.inl ⟨rfl, nofun⟩, rfl, rfl⟩
  · dsimp only
    split
    · exact ⟨.inr ⟨rfl, rfl⟩, rfl, rfl⟩
    · rw [raiseNotice_eq]
      exact ⟨.inr ⟨rfl, rfl⟩, rfl, rfl⟩

end

section
variable {pl : Plan} {w : StateWord} {s u v : State}

theorem mouldPart_settled (h : activeMould pl s ≠ some w.mould) (hstate : s.tracker.state = .noMould ∨ s.tracker.state = .armed)
    (hv : MouldApplies pl w.mould s v) : mouldPart pl w.mould s = v := by
  rw [mouldPart, if_neg h]
  rcases hstate with hs | hs <;> rw [hs] <;> exact applyMould_eq hv

theorem mouldPart_opened (h : activeMould pl s ≠ some w.mould) (hstate : s.tracker.state = .opened)
    (hpl : s.loader.plan = some pl) (hu : AbandonReleases pl (s.abandoned 1) u) (hv : MouldApplies pl w.mould u v) :
    mouldPart pl w.mould s = v := by
  rw [mouldPart, if_neg h, hstate]
  dsimp only
  rw [abandonWindow_eq_release, show AbandonReason.mouldChange.code = 1 from rfl, releaseAtAbandon_eq (by simpa using hpl) hu]
  exact applyMould_eq hv

theorem phasePart_other (hv : (s.tracker.state = .armed ∧ s.tracker.active ≠ none) ∨
    (s.tracker.state = .noMould ∧ s.tracker.active = none)) (hw : w.phase ≠ .vibrate) : phasePart pl w s = s := by
  rcases hv with ⟨hs, -⟩ | ⟨hs, -⟩
  · rw [phasePart_armed hs, armedPhase_other hw]
  · exact phasePart_noMould hs

end

/-- Settles O12: the mould id is applied, after an abandon in OPEN, and the phase acts on what it leaves. -/
theorem mouldApplied : Obligations.MouldApplied := by
  intro s u v pl a d w hs ha hat hw hdiff hu hv
  have hends := endsIn_handleWord hs ha hat hw
  have hpl : ((mergeAndForward (oneWord a d 15) s).wordTaken pl w).loader.plan = some pl := by
    simpa using (runningPlan_eq_some hat.1).2
  have hne : activeMould pl (mergeAndForward (oneWord a d 15) s) ≠ some w.mould := activeMould_ne (by simpa using hdiff)
  have hne' : activeMould pl ((mergeAndForward (oneWord a d 15) s).wordTaken pl w) ≠ some w.mould :=
    activeMould_ne (by simpa using hdiff)
  have hmould : mouldPart pl w.mould ((mergeAndForward (oneWord a d 15) s).wordTaken pl w) = v := by
    rcases hu with ⟨hstate, rfl⟩ | ⟨hstate, hrel⟩
    · exact mouldPart_settled hne' (by simpa using hstate) hv
    · exact mouldPart_opened hne' (by simpa using hstate) hpl hrel hv
  have habandons : abandonsWindow pl w (mergeAndForward (oneWord a d 15) s) = (s.tracker.state == .opened) := by
    rw [abandonsWindow, bne_iff_ne.mpr hne, Bool.true_or, Bool.and_true]
    rfl
  rw [handleWord_eq, hmould, habandons] at hends
  obtain ⟨hstate, -, -⟩ := hv.tracker
  refine ⟨fun p c hvib hactive hc hlast => ?_, fun hvib hno => ?_, fun hvib hopen => ?_, fun hvib hopen => ?_⟩
  · rw [clearAbandoned_vibrate hvib] at hends
    have harmed : v.tracker.state = .armed := by
      rcases hstate with h | h
      · exact h.1
      · cases h.2.symm.trans hactive
    rw [phasePart_armed harmed, armedPhase_vibrate hvib, if_neg hlast, openWindow_eq pl _ _ hactive hc] at hends
    exact hends
  · rw [clearAbandoned_vibrate hvib] at hends
    rcases hstate with ⟨hs', hact⟩ | ⟨hs', -⟩
    · rw [phasePart_armed hs', armedPhase_vibrate hvib, if_pos (hno.resolve_left hact)] at hends
      exact hends
    · rw [phasePart_noMould hs'] at hends
      exact hends
  · rw [hopen, beq_self_eq_true, clearAbandoned_true, phasePart_other hstate hvib] at hends
    exact hends
  · have hfalse : (s.tracker.state == TrackerState.opened) = false := by simpa using hopen
    rw [hfalse, phasePart_other hstate hvib, clearAbandoned_other hvib] at hends
    exact hends

/-! ## Step 6 -/

section
variable {pl : Plan} {s t : State} {w : StateWord}

theorem settleOpen_opens {p : Nat} {c : Context} (hd : s.tracker.deferredOpen = true) (hs : s.tracker.state = .armed)
    (hl : s.tracker.last = some w) (hw : w.phase = .vibrate) (ha : s.tracker.active = some p)
    (hc : s.table.contexts[p]? = some c) : settleOpen pl s = s.windowOpened pl c w.cycle true := by
  rw [settleOpen, hd, hs, hl]
  exact (if_pos hw).trans (openWindow_eq pl _ _ ha hc)

theorem settleOpen_clears (hl : s.tracker.last = some w)
    (h : s.tracker.deferredOpen = false ∨ w.phase ≠ .vibrate ∨ s.tracker.state ≠ .armed) :
    settleOpen pl s = s.setTracker { s.tracker with deferredOpen := false } := by
  unfold settleOpen
  split
  next v hd hs hv =>
    cases hl.symm.trans hv
    rcases h with h | h | h
    · cases hd.symm.trans h
    · exact if_neg h
    · exact absurd hs h
  · rfl

theorem settleMould_eq {mould : Nat} {x : State} (hm : activeMould pl s = some mould) (hl : s.tracker.last = some w)
    (h : (w.mould = mould ∧ x = s) ∨ (w.mould ≠ mould ∧ MouldApplies pl w.mould s x)) : settleMould pl s = x := by
  rw [settleMould, hl]
  dsimp only
  rw [hm]
  rcases h with ⟨he, rfl⟩ | ⟨hne, happ⟩
  · exact if_pos (congrArg some he.symm)
  · exact (if_neg fun he => hne (Option.some.inj he).symm).trans (applyMould_eq happ)

/-- The state on which step 6 acts: close processing is over, and the tracker is ARMED for the time being (R14). -/
def closeEnded (s : State) : State :=
  (s.setTracker { s.tracker with state := .armed }).setClosing { stage := .idle, items := [] }

theorem stepSix_closeEnded (pl : Plan) (s : State) : stepSix pl s = settleOpen pl (settleMould pl (closeEnded s)) := rfl

theorem stepSix_eq {p : Nat} {q : ProfilePlan} (ha : s.tracker.active = some p) (hq : pl.profiles[p]? = some q)
    (hl : s.tracker.last = some w) (h : StepSixGives pl w q.mouldId s t) : stepSix pl s = t := by
  obtain ⟨x, hx, ht⟩ := h
  have hxe : settleMould pl (closeEnded s) = x :=
    settleMould_eq (activeMould_of_active (s := closeEnded s) ha hq) hl hx
  have hmould : x.tracker.last = some w ∧ x.tracker.deferredOpen = s.tracker.deferredOpen ∧
      (x.tracker.state = .armed ↔ x.tracker.active ≠ none) := by
    rcases hx with ⟨-, rfl⟩ | ⟨-, happ⟩
    · exact ⟨hl, rfl, fun _ hn => (by cases ha.symm.trans hn), fun _ => rfl⟩
    · obtain ⟨hstate, hlast, hdef⟩ := happ.tracker
      refine ⟨hlast.trans hl, hdef, ?_⟩
      rcases hstate with ⟨hs, hact⟩ | ⟨hs, hact⟩ <;> simp [hs, hact]
  obtain ⟨hxl, hxd, hxs⟩ := hmould
  rw [stepSix_closeEnded, hxe]
  rcases ht with ⟨p', c, hd, hw, hact, hc, rfl⟩ | ⟨hno, rfl⟩
  · exact settleOpen_opens (hxd.trans hd) (hxs.mpr (by rw [hact]; nofun)) hxl hw hact hc
  · refine settleOpen_clears hxl ?_
    rw [hxd]
    exact hno.imp_right (Or.imp_right fun hn hs => hxs.mp hs hn)

end

theorem workWaits_iff (s : State) :
    workWaits s = true ↔ ∃ k, s.mail.work = some k ∧ (k.phase = .waiting ∨ k.phase = .checked) := by
  unfold workWaits workPhaseIs
  cases s.mail.work <;> simp

theorem publishDue_iff (s : State) : publishDue s = true ↔
    s.tracker.state = .closing ∧ s.closing.stage = .placing ∧ s.closing.items = [] ∧
      ∀ i ∈ s.report.items, i.gate ≠ some .closeStep := by
  simp [publishDue, gated, and_assoc]

/-- Settles O32: the banks change places, and step 6 follows unless work waits. -/
theorem publishSettles : Obligations.PublishSettles := by
  intro s pl p q w hlow hclosing hstage hitems hgate hpl hactive hq hlast
  have hdue : publishDue s = true := (publishDue_iff s).mpr ⟨hclosing, hstage, hitems, hgate⟩
  have hexec : exec .publish s = .next (if workWaits (swapBanks s) then
      (swapBanks s).setClosing { (swapBanks s).closing with stage := .published } else settle (finishClose (swapBanks s))) := by
    simp [exec, execPublish, hlow, hdue]
  refine ⟨fun z hidle hz => ?_, fun k hk hph => ?_⟩
  · have hno : workWaits (swapBanks s) = false := by
      rw [← Bool.not_eq_true, workWaits_iff]
      rintro ⟨k, hk, hph⟩
      obtain ⟨hwait, hcheck⟩ := hidle k hk
      exact hph.elim hwait hcheck
    have hrun : (swapBanks s).runningPlan = some pl := hpl
    have hclose : finishClose (swapBanks s) = z := by
      rw [finishClose, hrun]
      exact stepSix_eq hactive hq hlast hz
    rw [hexec, hno, hclose]
    exact endsIn_settle z
  · have hyes : workWaits (swapBanks s) = true := (workWaits_iff _).mpr ⟨k, hk, hph⟩
    rw [hexec, hyes, if_pos rfl]
    exact congrArg Host.Outcome.next (congrArg _ (congrArg _ hitems))

end Sys2Proof.Machine
end

section
/-! PROOFS. Frame assemblers, the staging arbiter, timers and the notice consumer word (chapters 2, 8 and 11). -/

namespace Sys2Proof.Machine

/-! ## Addresses and headers of a ring -/

section
variable {w : WindowPlan} {a : Nat} {d : Word}

theorem inRing_iff (w : WindowPlan) (a : Nat) :
    w.inRing a = true ↔ w.base ≤ a ∧ a < w.base + 4 * w.frameWords * w.frames := by
  rw [WindowPlan.inRing, Bool.and_eq_true, decide_eq_true_iff, decide_eq_true_iff]
  rfl

theorem nextWord_eq_following (h : w.inRing a = true) (ha : a % 4 = 0) (hb : w.base % 4 = 0) :
    w.nextWord a = w.following a := by
  obtain ⟨hlo, hhi⟩ := (inRing_iff w a).mp h
  unfold WindowPlan.nextWord WindowPlan.following WindowPlan.ringBytes
  have hassoc : 4 * w.frameWords * w.frames = 4 * (w.frameWords * w.frames) := Nat.mul_assoc ..
  rw [hassoc] at hhi ⊢
  generalize w.frameWords * w.frames = n at hhi ⊢
  split
  next he =>
    rw [show a - w.base + 4 = 4 * n by omega, Nat.mod_self]
    rfl
  next he =>
    rw [Nat.mod_eq_of_lt (by omega)]
    omega

theorem frameStart_iff (h : w.inRing a = true) :
    w.frameStart a = true ↔ ∃ j, j < w.frames ∧ a = w.base + j * w.frameWords * 4 := by
  obtain ⟨hlo, hhi⟩ := (inRing_iff w a).mp h
  have hpos : 0 < 4 * w.frameWords := Nat.mul_pos (by decide) (by simp [WindowPlan.frameWords])
  simp only [WindowPlan.frameStart, decide_eq_true_eq]
  constructor
  · intro hm
    obtain ⟨j, hj⟩ := Nat.dvd_of_mod_eq_zero hm
    have hlt : 4 * w.frameWords * j < 4 * w.frameWords * w.frames := by omega
    refine ⟨j, Nat.lt_of_mul_lt_mul_left hlt, ?_⟩
    rw [show j * w.frameWords * 4 = 4 * w.frameWords * j by ring]
    omega
  · rintro ⟨j, -, rfl⟩
    rw [Nat.add_sub_cancel_left, show j * w.frameWords * 4 = 4 * w.frameWords * j by ring, Nat.mul_mod_right]

theorem validHeader_iff (w : WindowPlan) (d : Word) : w.validHeader d = true ↔
    d.toNat / 2 ^ 24 = 0xA6 ∧ d.toNat / 2 ^ 8 % 256 = w.chans.length ∧ d.toNat % 256 = w.scans := by
  simp only [WindowPlan.validHeader, bitsAt_top d 24, bitsAt_eq d 8, bitsAt_eq d 0, Bool.and_eq_true, decide_eq_true_eq,
    and_assoc, pow_zero, Nat.div_one]
  rfl

theorem startsFrame_iff (h : w.inRing a = true) :
    w.startsFrame a d ↔ w.frameStart a = true ∧ w.validHeader d = true := by
  rw [WindowPlan.startsFrame, frameStart_iff h, validHeader_iff]

end

/-! ## Assemblers -/

section
variable {s : State} {i : Nat} {x : Assembler}

theorem assembler_of_getElem? (h : s.asm[i]? = some x) : s.assembler i = x := by
  rw [State.assembler, List.getD_eq_getElem?_getD, h, Option.getD_some]

theorem assembler_setAssembler (h : s.asm[i]? = some x) (y : Assembler) : (s.setAssembler i y).assembler i = y := by
  refine assembler_of_getElem? ?_
  rw [State.setAssembler, State.setAsm_asm, List.getElem?_set_self (List.getElem?_eq_some_iff.mp h).1]

@[simp] theorem setAssembler_tracker (s : State) (i : Nat) (y : Assembler) : (s.setAssembler i y).tracker = s.tracker := rfl

theorem setAssembler_setAssembler (s : State) (i : Nat) (y z : Assembler) :
    (s.setAssembler i y).setAssembler i z = s.setAssembler i z := by
  simp only [State.setAssembler, State.setAsm_asm, List.set_set]
  rfl

/-- The broken count grows when a partial frame is dropped while OPEN (R24, R25). -/
theorem dropPartial_eq (s : State) (x : Assembler) :
    dropPartial s.isOpen x = { x with
      collected := []
      broken := if s.tracker.state = .opened ∧ x.collected ≠ [] then min 255 (x.broken + 1) else x.broken } := by
  have hiff : (s.isOpen && !x.collected.isEmpty) = true ↔ s.tracker.state = .opened ∧ x.collected ≠ [] := by
    simp [State.isOpen]
  unfold dropPartial
  simp only [hiff]
  split <;> rfl

theorem sequenceCheck_eq (s : State) (q : Nat) (x : Assembler) :
    sequenceCheck s.isOpen q x = { x with
      lastSeq := some q
      gap :=
        match x.lastSeq with
        | none => x.gap
        | some p => if s.tracker.state = .opened then min 255 (x.gap + (((q : Int) - p - 1) % 256).toNat) else x.gap } := by
  unfold sequenceCheck
  cases x.lastSeq with
  | none => rfl
  | some p =>
    have hgap : subMod q (p + 1) 256 = (((q : Int) - p - 1) % 256).toNat := by
      unfold subMod
      omega
    simp only [State.isOpen, beq_iff_eq, satAdd, hgap]

theorem restartSilence_eq (x : Assembler) : restartSilence x =
    { x with silenceTimer := if x.silenceLatch then x.silenceTimer else x.silenceTimer.map fun _ => 0 } := by
  unfold restartSilence
  split <;> rfl

end

/-! ## A word of a ring -/

section
variable {s : State} {pl : Plan} {i : Nat} {w : WindowPlan} {x : Assembler} {a : Addr} {d : Word} {l : Lanes}

/-- A write of a ring word is offered to its window's assembler. -/
theorem exec_ringWrite (hs : s.takes) (ha : a.toNat % 4 = 0) (hr : s.ringWord pl i w a.toNat) :
    exec (.captureRingWrite (oneWord a d l)) s =
      .next (examineRingWord i w a.toNat { data := d, lanes := l } (mergeAndForward (oneWord a d l) s)) := by
  have hrow : Instr.captureRingWrite (oneWord a d l) ∈ writeRows (oneWord a d l) := by simp [writeRows]
  rw [exec_oneWord ha hs hrow]
  exact congrArg _ (snoopWord_ring _ hr rfl rfl)

theorem State.ringWord.inRing (h : s.ringWord pl i w a.toNat) : w.inRing a.toNat = true := h.2.2.1

theorem examineRingWord_hunt (hx : s.asm[i]? = some x) (h : x.state = .hunt) (a : Nat) :
    examineRingWord i w a { data := d, lanes := l } s =
      if l = 15 ∧ w.frameStart a = true ∧ w.validHeader d = true then s.setAssembler i (startFrame w a d x) else s := by
  unfold examineRingWord
  rw [assembler_of_getElem? hx]
  dsimp only
  rw [h]
  simp only [Bool.and_eq_true, decide_eq_true_eq, and_assoc]

theorem examineRingWord_expected (hx : s.asm[i]? = some x) (h : x.state = .assemble) :
    examineRingWord i w x.expected { data := d, lanes := 15 } s = expectedWord i w x.expected d s := by
  unfold examineRingWord
  rw [assembler_of_getElem? hx]
  dsimp only
  rw [h]
  simp

/-- A write in ASSEMBLE that is not the expected one drops the partial frame, and starts a new one or hunts (R24, R25). -/
theorem examineRingWord_break {a : Nat} (hx : s.asm[i]? = some x) (h : x.state = .assemble) (hl : l ≠ 15 ∨ a ≠ x.expected) :
    examineRingWord i w a { data := d, lanes := l } s =
      s.setAssembler i (if l = 15 ∧ w.frameStart a = true ∧ w.validHeader d = true then
        startFrame w a d (dropPartial s.isOpen x) else toHunt (dropPartial s.isOpen x)) := by
  unfold examineRingWord
  rw [assembler_of_getElem? hx]
  dsimp only
  rw [h]
  by_cases hl15 : l = 15
  · have ha := hl.resolve_left (· hl15)
    simp only [hl15, ne_eq, not_true, if_false, if_neg ha, true_and, sequenceBreak, assembler_of_getElem? hx,
      Bool.and_eq_true]
    split <;> rfl
  · have hno : ¬ (l = 15 ∧ w.frameStart a = true ∧ w.validHeader d = true) := fun hstart => hl15 hstart.1
    rw [if_neg hno]
    exact if_pos hl15

/-- Settles O14: one lemma for each state of the assembler and each place of the word. -/
theorem frameWordTaken : Obligations.FrameWordTaken := by
  refine ⟨fun s pl i w x a d l hs ha hr hb hx hst => ?_, fun s pl i w x a d hs ha hr hb hx hst he hfill => ?_,
    fun s pl i w x a d l hs ha hr hb hx hst hl => ?_⟩
  · have hnext := nextWord_eq_following hr.inRing ha hb
    have hm : (mergeAndForward (oneWord a d l) s).asm[i]? = some x := hx
    rw [exec_ringWrite hs ha hr, examineRingWord_hunt hm hst, startsFrame_iff hr.inRing]
    refine ⟨fun hl hstart => ?_, fun hno => ?_⟩
    · rw [if_pos ⟨hl, hstart⟩, startFrame, hnext]
      rfl
    · rw [if_neg hno]
  · have hnext := nextWord_eq_following hr.inRing ha hb
    have hm : (mergeAndForward (oneWord a d 15) s).asm[i]? = some x := hx
    rw [exec_ringWrite hs ha hr, he, examineRingWord_expected hm hst, expectedWord, assembler_of_getElem? hm, ← he, hnext]
    rcases hfill with ⟨hne, hlen⟩ | ⟨hnil, hstart⟩
    · have hsome : x.collected.isEmpty = false := by simpa using hne
      simp only [hsome, Bool.false_eq_true, if_false, List.length_append, List.length_singleton, hlen, if_true]
      rfl
    · obtain ⟨-, hhead⟩ := (startsFrame_iff hr.inRing).mp hstart
      simp only [hnil, List.isEmpty_nil, if_true, hhead, startFrame, hnext, hst]
      rw [List.nil_append, ← hst]
      rfl
  · have hnext := nextWord_eq_following hr.inRing ha hb
    have hm : (mergeAndForward (oneWord a d l) s).asm[i]? = some x := hx
    rw [exec_ringWrite hs ha hr, examineRingWord_break hm hst hl, dropPartial_eq, startsFrame_iff hr.inRing]
    refine ⟨fun hl hstart => ?_, fun hno => ?_⟩
    · rw [if_pos ⟨hl, hstart⟩, startFrame, hnext]
      dsimp only
      rw [← hst]
      rfl
    · rw [if_neg hno]
      rfl

/-- A word that is no header where one is expected is a format fault (R23). -/
theorem expectedWord_noHeader (hx : s.asm[i]? = some x) (hn : x.collected = []) (hd : w.validHeader d = false) (a : Nat) :
    expectedWord i w a d s = formatFault i s := by
  unfold expectedWord
  rw [assembler_of_getElem? hx]
  dsimp only
  rw [hn, hd]
  rfl

/-- What is left of an assembler once its frame has completed, before the frame is offered for staging (R22, R26, R30). -/
def Assembler.completed (isOpen : Bool) (h : Word) (next : Nat) (x : Assembler) : Assembler :=
  restartSilence (sequenceCheck isOpen (h.toNat / 2 ^ 16 % 256) { x with collected := [], expected := next })

theorem expectedWord_completes {h : Word} {r : List Word} (hx : s.asm[i]? = some x) (hc : x.collected = h :: r)
    (hlen : r.length + 2 = w.frameWords) (a : Nat) :
    expectedWord i w a d s =
      offerFrame i { words := h :: r ++ [d], order := s.eval.frames }
        ((s.setAssembler i (x.completed s.isOpen h (w.nextWord a))).setEval { s.eval with frames := s.eval.frames + 1 }) := by
  have hseq : headerSeq h = h.toNat / 2 ^ 16 % 256 := bitsAt_eq h 16 8
  unfold expectedWord
  rw [assembler_of_getElem? hx]
  dsimp only
  rw [hc]
  have hfull : ¬ (h :: r ++ [d]).length < w.frameWords := by simp; omega
  simp only [List.isEmpty_cons, Bool.false_eq_true, if_false, hfull]
  unfold completeFrame
  rw [assembler_setAssembler hx]
  dsimp only
  rw [setAssembler_setAssembler]
  simp only [List.cons_append, List.getD_cons_zero, hseq]
  rfl

theorem offerFrame_stages {f : Frame} (hx : s.asm[i]? = some x) (h : x.slot0 = none ∨ x.slot1 = none) :
    offerFrame i f s = s.setAssembler i { x with
      slot0 := if x.slot0 = none then some f else x.slot0, slot1 := if x.slot0 = none then x.slot1 else some f } := by
  unfold offerFrame
  rw [assembler_of_getElem? hx]
  dsimp only
  split
  next h0 => simp [h0]
  next h0 h1 => simp [h0]
  next h0 h1 =>
    rw [h0, h1] at h
    cases h with
    | inl h => cases h
    | inr h => cases h

theorem offerFrame_overruns {f g k : Frame} (hx : s.asm[i]? = some x) (h0 : x.slot0 = some g) (h1 : x.slot1 = some k) :
    offerFrame i f s =
      let y := { x with overrun := min 255 (x.overrun + 1), overrunRaised := true }
      if s.tracker.state = .opened then
        if x.overrunRaised then s.setAssembler i y
        else settle (raiseNotice none (s.naming .captureFault i 1) (s.setAssembler i y))
      else s := by
  unfold offerFrame
  rw [assembler_of_getElem? hx]
  dsimp only
  rw [h0, h1]
  simp only [State.isOpen, beq_iff_eq]
  rfl

end

/-- Settles O16: the completed frame is offered for staging, and finds an EMPTY slot. -/
theorem frameCompletes : Obligations.FrameCompletes := by
  intro s pl i w x a d h r hs ha hr hb hx hst he hc hlen hslot f q
  have hnext := nextWord_eq_following hr.inRing ha hb
  have hm : (mergeAndForward (oneWord a d 15) s).asm[i]? = some x := hx
  have hi : i < s.asm.length := (List.getElem?_eq_some_iff.mp hx).1
  rw [exec_ringWrite hs ha hr, he, examineRingWord_expected hm hst, ← he, expectedWord_completes hm hc hlen, hnext,
    offerFrame_stages (x := x.completed s.isOpen h (w.following a.toNat)) (List.getElem?_set_self hi)
    (by rw [Assembler.completed, restartSilence_eq, sequenceCheck_eq]; exact hslot)]
  simp only [Assembler.completed, restartSilence_eq, sequenceCheck_eq, State.setAssembler, State.setAsm_asm,
    State.setEval_asm, List.set_set]
  rfl

section
variable {s : State} {i : Nat} {x : Assembler}

theorem toHunt_of_nil (h : x.collected = []) : toHunt x = { x with state := .hunt, lastSeq := none } := by
  rw [toHunt, ← h]

theorem formatFault_eq (hx : s.asm[i]? = some x) (h : x.collected = []) :
    formatFault i s =
      let y := { x with state := .hunt, lastSeq := none, broken := min 255 (x.broken + 1), formatRaised := true }
      if s.tracker.state = .opened then
        if x.formatRaised then s.setAssembler i y
        else settle (raiseNotice none (s.naming .captureFault i 3) (s.setAssembler i y))
      else s.setAssembler i { x with state := .hunt, lastSeq := none } := by
  unfold formatFault
  rw [assembler_of_getElem? hx, toHunt_of_nil h]
  simp only [State.isOpen, beq_iff_eq]
  rfl

/-- A frame that follows its predecessor leaves the gap count as it is (R26). -/
theorem completed_inOrder {h : Word} (hseq : x.lastSeq = some ((h.toNat / 2 ^ 16 + 255) % 256)) (hgap : x.gap ≤ 255)
    (next : Nat) : x.completed s.isOpen h next = { x with
      collected := [], expected := next, lastSeq := some (h.toNat / 2 ^ 16 % 256)
      silenceTimer := if x.silenceLatch then x.silenceTimer else x.silenceTimer.map fun _ => 0 } := by
  have hzero : (((h.toNat / 2 ^ 16 % 256 : Nat) : Int) - ((h.toNat / 2 ^ 16 + 255) % 256 : Nat) - 1) % 256 = 0 := by omega
  simp only [Assembler.completed, restartSilence_eq, sequenceCheck_eq, hseq, hzero, Int.toNat_zero, Nat.add_zero,
    Nat.min_eq_right hgap, ite_self]

theorem silenceReached_of {pl : Plan} {n : Nat} (hpl : s.runningPlan = some pl) (ho : s.tracker.state = .opened)
    (hi : i < pl.windows.length) (hx : s.asm[i]? = some x) (hn : x.silenceTimer = some n) (hlim : pl.silenceLimit ≤ n) :
    silenceReached i s = true := by
  rw [silenceReached, hpl, assembler_of_getElem? hx, hn]
  simp [State.isOpen, ho, hi, hlim]

end

/-- Settles O15: each fault is counted while OPEN, and the first since the open is raised. -/
theorem captureFaultsCounted : Obligations.CaptureFaultsCounted := by
  refine ⟨fun s pl i w x a d hs ha hr hx hst he hn hd => ?_,
    fun s pl i w x a d h r f g hs ha hr hb hx hst he hc hlen h0 h1 hseq hgap => ?_,
    fun s pl i x n hlow hpl hopen hi hx hn hlim => ?_⟩
  · have hno : w.validHeader d = false := by rw [← Bool.not_eq_true, validHeader_iff]; exact hd
    have hm : (mergeAndForward (oneWord a d 15) s).asm[i]? = some x := hx
    rw [exec_ringWrite hs ha hr, he, examineRingWord_expected hm hst, expectedWord_noHeader hm hn hno, formatFault_eq hm hn,
      mergeAndForward_tracker]
    refine ⟨fun hclosed => ?_, fun hopen hraised => ?_, fun hopen hraised => ?_⟩
    · simp only [hclosed, if_false]
      rfl
    · simp only [hopen, hraised, if_true]
      rfl
    · simp only [hopen, hraised, if_true, Bool.false_eq_true, if_false]
      exact endsIn_settle _
  · have hnext := nextWord_eq_following hr.inRing ha hb
    have hm : (mergeAndForward (oneWord a d 15) s).asm[i]? = some x := hx
    have hi : i < s.asm.length := (List.getElem?_eq_some_iff.mp hx).1
    rw [exec_ringWrite hs ha hr, he, examineRingWord_expected hm hst, ← he, expectedWord_completes hm hc hlen, hnext,
      completed_inOrder hseq hgap, offerFrame_overruns (List.getElem?_set_self hi) (by exact h0) (by exact h1)]
    simp only [State.setEval_tracker, setAssembler_tracker, mergeAndForward_tracker]
    refine ⟨fun hclosed => ?_, fun hopen hraised => ?_, fun hopen hraised => ?_⟩
    · simp only [hclosed, if_false]
      rfl
    · simp only [hopen, hraised, if_true, State.setAssembler, State.setAsm_asm, State.setEval_asm, List.set_set]
      rfl
    · simp only [hopen, hraised, if_true, Bool.false_eq_true, if_false, State.setAssembler, State.setAsm_asm,
        State.setEval_asm, List.set_set]
      exact endsIn_settle _
  · have hreach := silenceReached_of hpl hopen hi hx hn hlim
    have hexec : exec (.silenceExpiry i) s = .next (expireSilence i.val s) := by
      simp [exec, execSilenceExpiry, hlow, hreach]
    rw [hexec, expireSilence, assembler_of_getElem? hx]
    exact endsIn_settle _

/-! ## The staging arbiter -/

theorem mem_stagedFrames (xs : List Assembler) (n i : Nat) (k : Bool) (f : Frame) :
    (i, k, f) ∈ stagedFrames n xs ↔ ∃ j x, i = n + j ∧ xs[j]? = some x ∧ (if k then x.slot1 else x.slot0) = some f := by
  induction xs generalizing n with
  | nil => simp [stagedFrames]
  | cons x xs ih =>
    rw [stagedFrames, List.mem_append, List.mem_append, ih]
    constructor
    · rintro ((h | h) | ⟨j, y, rfl, hy, hf⟩)
      · obtain ⟨hf, rfl, rfl⟩ := by simpa using h
        exact ⟨0, x, rfl, rfl, hf⟩
      · obtain ⟨hf, rfl, rfl⟩ := by simpa using h
        exact ⟨0, x, rfl, rfl, hf⟩
      · exact ⟨j + 1, y, by omega, hy, hf⟩
    · rintro ⟨j, y, rfl, hy, hf⟩
      cases j with
      | zero =>
        cases hy
        cases k <;> simp_all
      | succ j => exact .inr ⟨j, y, by omega, hy, hf⟩

theorem staged_iff_mem (s : State) (i : Nat) (k : Bool) (f : Frame) :
    s.staged i k f ↔ (i, k, f) ∈ stagedFrames 0 s.asm := by
  rw [mem_stagedFrames, State.staged]
  constructor
  · rintro ⟨x, hx, hf⟩
    exact ⟨i, x, (Nat.zero_add i).symm, hx, hf⟩
  · rintro ⟨j, x, hj, hx, hf⟩
    rw [Nat.zero_add] at hj
    exact ⟨x, hj ▸ hx, hf⟩

theorem foldl_earlier (x : Nat × Bool × Frame) (xs : List (Nat × Bool × Frame)) :
    xs.foldl earlier x ∈ x :: xs ∧ ∀ y ∈ x :: xs, (xs.foldl earlier x).2.2.order ≤ y.2.2.order := by
  induction xs generalizing x with
  | nil => simp
  | cons y ys ih =>
    obtain ⟨hmem, hle⟩ := ih (earlier x y)
    have hcase : (earlier x y = x ∧ x.2.2.order ≤ y.2.2.order) ∨ (earlier x y = y ∧ y.2.2.order ≤ x.2.2.order) := by
      unfold earlier
      split
      next h => exact .inr ⟨rfl, h.le⟩
      next h => exact .inl ⟨rfl, Nat.le_of_not_lt h⟩
    rw [List.foldl_cons]
    have hhead := hle _ List.mem_cons_self
    refine ⟨?_, fun z hz => ?_⟩
    · rcases List.mem_cons.mp hmem with h | h
      · rw [h]
        rcases hcase with ⟨he, -⟩ | ⟨he, -⟩ <;> simp [he]
      · exact List.mem_cons_of_mem _ (List.mem_cons_of_mem _ h)
    · rcases List.mem_cons.mp hz with rfl | hz
      · rcases hcase with ⟨he, hxy⟩ | ⟨he, hyx⟩ <;> rw [he] at hhead ⊢
        · exact hhead
        · exact hhead.trans hyx
      · rcases List.mem_cons.mp hz with rfl | hz
        · rcases hcase with ⟨he, hxy⟩ | ⟨he, hyx⟩ <;> rw [he] at hhead ⊢
          · exact hhead.trans hxy
          · exact hhead
        · exact hle z (List.mem_cons_of_mem _ hz)

/-- A staged frame that completed before every other one is the earliest (R28). -/
theorem earliestFrame_eq {s : State} {i : Nat} {k : Bool} {f : Frame} (hf : s.staged i k f)
    (hmin : ∀ j l g, s.staged j l g → (j, l) ≠ (i, k) → f.order < g.order) : earliestFrame s.asm = some (i, k, f) := by
  have hin := (staged_iff_mem s i k f).mp hf
  unfold earliestFrame
  match hxs : stagedFrames 0 s.asm with
  | [] => rw [hxs] at hin; cases hin
  | x :: r =>
    rw [hxs] at hin
    obtain ⟨hmem, hle⟩ := foldl_earlier x r
    have hstaged : s.staged (r.foldl earlier x).1 (r.foldl earlier x).2.1 (r.foldl earlier x).2.2 := by
      rw [staged_iff_mem, hxs]
      exact hmem
    by_cases hsame : ((r.foldl earlier x).1, (r.foldl earlier x).2.1) = (i, k)
    · obtain ⟨hi, hk⟩ := Prod.mk.inj hsame
      obtain ⟨y, hy, hg⟩ := hstaged
      obtain ⟨z, hz, hfz⟩ := hf
      rw [hi, hz] at hy
      cases hy
      rw [hk, hfz] at hg
      exact congrArg some (Prod.ext hi (Prod.ext hk (Option.some.inj hg).symm))
    · exact absurd (hmin _ _ _ hstaged hsame) (Nat.not_lt.mpr (hle _ hin))

/-! ## Accumulating a frame -/

section
variable {pl : Plan} {n : Nat}

theorem accumulateFrame_eq (pl : Plan) (w : WindowPlan) (f : Frame) (e : Evaluator) :
    accumulateFrame pl w f e = { e with accums := (accumulateFrame pl w f e).accums } := by
  rw [accumulateFrame]
  induction frameSamples w f generalizing e with
  | nil => rfl
  | cons x xs ih =>
    rw [List.foldl_cons, ih (accumulateSample pl e x)]
    unfold accumulateSample
    split <;> rfl

theorem accumulateSample_get (e : Evaluator) (x : Nat × Int) :
    (accumulateSample pl e x).accums[n]? =
      if x.1 = n then (e.accums[n]?).map fun a => match pl.channel n with
        | some c => accumulate c x.2 a
        | none => a
      else e.accums[n]? := by
  unfold accumulateSample
  by_cases hn : x.1 = n
  · subst hn
    rw [if_pos rfl]
    split
    next h => simp [h]
    next c h =>
      rw [h, Evaluator.accum, set_getD_eq_modify, List.getElem?_modify]
      simp
  · rw [if_neg hn]
    split
    · rfl
    · rw [List.getElem?_set_ne hn]

theorem accumulateSamples_defined {c : ChannelPlan} (hc : pl.channel n = some c) (xs : List (Nat × Int)) (e : Evaluator) :
    (xs.foldl (accumulateSample pl) e).accums[n]? =
      (e.accums[n]?).map fun a =>
        ((xs.filter fun x => x.1 == n).map Prod.snd).foldl (fun b x => accumulate c x b) a := by
  induction xs generalizing e with
  | nil => simp
  | cons x xs ih =>
    rw [List.foldl_cons, ih, accumulateSample_get, hc]
    by_cases hn : x.1 = n
    · simp [hn, Function.comp_def]
    · simp [hn]

theorem accumulateSamples_undefined (hc : pl.channel n = none) (xs : List (Nat × Int)) (e : Evaluator) :
    (xs.foldl (accumulateSample pl) e).accums[n]? = e.accums[n]? := by
  induction xs generalizing e with
  | nil => rfl
  | cons x xs ih =>
    rw [List.foldl_cons, ih, accumulateSample_get, hc]
    simp

end

theorem takeFrame_closed {s : State} (h : s.tracker.state ≠ .opened) (i : Nat) (k : Bool) (f : Frame) :
    takeFrame i k f s = s.setAsm (s.withoutStaged i k) := by
  have hclosed : s.isOpen = false := by simpa [State.isOpen] using h
  unfold takeFrame
  rw [hclosed, emptySlot_eq_modify]
  split <;> rfl

theorem takeFrame_opened {s : State} {pl : Plan} {i : Nat} {w : WindowPlan} (hpl : s.runningPlan = some pl)
    (ho : s.tracker.state = .opened) (hw : pl.windows[i]? = some w) (k : Bool) (f : Frame) :
    takeFrame i k f s = s.setEval { s.eval with
      accums := (accumulateFrame pl w f s.eval).accums, busy := some (i, k) } := by
  have hopen : s.isOpen = true := by simpa [State.isOpen] using ho
  unfold takeFrame
  rw [hpl]
  dsimp only
  rw [hopen, hw]
  dsimp only
  rw [accumulateFrame_eq]

/-- Settles O17: the earliest staged frame is taken, and the set of each channel takes its samples in order. -/
theorem frameTaken : Obligations.FrameTaken := by
  refine ⟨fun s i k f hlow hbusy hclosed hf hmin => ?_, fun s pl i k f w hlow hbusy hpl hopen hf hw hmin => ?_,
    fun s i k hlow hbusy => ?_⟩
  · have hexec : exec .frameTaken s = .next (takeFrame i k f s) := by
      simp only [exec, execFrameTaken, hlow, Bool.false_eq_true, if_false, hbusy, earliestFrame_eq hf hmin]
    rw [hexec, takeFrame_closed hclosed]
  · have hexec : exec .frameTaken s = .next (takeFrame i k f s) := by
      simp only [exec, execFrameTaken, hlow, Bool.false_eq_true, if_false, hbusy, earliestFrame_eq hf hmin]
    refine ⟨(accumulateFrame pl w f s.eval).accums, ?_, (accumulateSamples_frame pl _ _).1, fun n a ha => ⟨fun c hc => ?_, fun hc => ?_⟩⟩
    · rw [hexec, takeFrame_opened hpl hopen hw]
    · rw [accumulateFrame, accumulateSamples_defined hc, ha]
      rfl
    · rw [accumulateFrame, accumulateSamples_undefined hc, ha]
  · have hexec : exec .frameFinished s = .next (dropBusy s) := by simp [exec, execFrameFinished, hlow]
    rw [hexec, dropBusy, hbusy]
    dsimp only
    rw [emptySlot_eq_modify]

/-! ## Timers -/

/-- Settles O34: each timer that runs counts up to its limit and holds there. -/
theorem timersCount : Obligations.TimersCount := by
  refine ⟨fun s hlow => ?_, fun s p hlow hp hwidth => ?_⟩
  · intro o
    have hexec : exec .lineTick s =
        .next (((tickWindow s).setOut (tickPulse (tickWindow s).out)).setLoader (tickRetry (tickWindow s).loader)) := by
      simp [exec, execLineTick, hlow]
    rw [hexec]
    refine ⟨fun pl hpl hopen => ?_, fun hrun hclosed => ?_, fun hrun => ?_, fun hrun => ?_⟩
    · have hwin : tickWindow s = (s.setTracker (tickLimit pl s.tracker)).setAsm (s.asm.map (tickSilence pl)) := by
        simp [tickWindow, hpl, State.isOpen, hopen]
      have hretry : tickRetry s.loader = s.loader := by rw [tickRetry, (runningPlan_eq_some hpl).1]
      rw [hwin]
      exact congrArg _ (congrArg (State.setLoader _) hretry)
    · have hwin : tickWindow s = s := by
        unfold tickWindow
        split
        · simp [State.isOpen, hclosed]
        · rfl
      rw [hwin, tickRetry, hrun]
      rfl
    · have hwin : tickWindow s = s := by simp [tickWindow, State.runningPlan, hrun]
      have hretry : tickRetry s.loader =
          { s.loader with retry := s.loader.retry.map (tickUpTo Config.retryTicks) } := by
        unfold tickRetry
        split
        · rfl
        next h => cases hrun.symm.trans h
        next h => cases hrun.symm.trans h
      rw [hwin, hretry]
      rfl
    · have hwin : tickWindow s = s := by simp [tickWindow, State.runningPlan, hrun]
      rw [hwin, tickRetry, hrun]
      rfl
  · have hreach : pulseReached s = true := by simp [pulseReached, hp, hwidth]
    simp [exec, execMarkPulseExpiry, hlow, hreach]

/-! ## The notice consumer word -/

/-- The distance going forward around a ring (R129). -/
theorem subMod_eq_emod {a b m : Nat} (hm : 0 < m) : (subMod a b m : Int) = ((a : Int) - b) % m := by
  have hlt : b % m < m := Nat.mod_lt b hm
  rw [subMod, Int.natCast_emod, Int.natCast_add, Int.natCast_sub hlt.le, Int.natCast_emod]
  rw [show (a : Int) + ((m : Int) - (b : Int) % m) = ((a : Int) - b) + (b - (b : Int) % m) + m by ring,
    Int.add_emod_right]
  exact Int.emod_eq_emod_iff_emod_sub_eq_zero.mpr (by
    rw [add_sub_cancel_left]
    exact Int.emod_eq_zero_of_dvd (Int.dvd_self_sub_of_emod_eq rfl))

/-- Settles O36: the write is taken exactly if it is whole and lies on the way from consumer to producer. -/
theorem consumerWrite : Obligations.ConsumerWrite := by
  intro s a d l hs ha m
  have ha4 : a.toNat % 4 = 0 := by
    rw [ha, State.base, show Config.anchorStride = 0x400000 from rfl]
    omega
  have hrow : Instr.noticeConsumerWrite (oneWord a d l) ∈ writeRows (oneWord a d l) := by simp [writeRows]
  have hexec : exec (.noticeConsumerWrite (oneWord a d l)) s = .next (examineConsumer { data := d, lanes := l } m) := by
    rw [exec_oneWord ha4 hs hrow, ha]
    exact congrArg _ (snoopWord_consumer (m := m) _)
  rw [hexec]
  refine ⟨fun pl hpl hsize hc hp => ?_, fun hrun => ?_⟩
  · have hm : m.runningPlan = some pl := hpl
    have hiff : (l = 15 ∧ d.toNat < pl.ringSize ∧
        subMod d.toNat s.report.consumer pl.ringSize ≤ subMod s.report.producer s.report.consumer pl.ringSize) ↔
        (l = 15 ∧ d.toNat < pl.ringSize ∧ ((d.toNat : Int) - s.report.consumer) % pl.ringSize
          ≤ ((s.report.producer : Int) - s.report.consumer) % pl.ringSize) := by
      rw [← subMod_eq_emod hsize, ← subMod_eq_emod hsize, Int.ofNat_le]
    rw [examineConsumer, hm]
    refine ⟨fun hl hd hle => ?_, fun hno => ?_⟩
    · exact congrArg _ (if_pos (hiff.mpr ⟨hl, hd, hle⟩))
    · exact congrArg _ (if_neg fun h => hno (hiff.mp h))
  · have hm : m.runningPlan = none := by
      show s.runningPlan = none
      unfold State.runningPlan
      split
      next h => exact absurd h hrun
      all_goals rfl
    rw [examineConsumer, hm]

end Sys2Proof.Machine
end

section
/-! PROOFS. Words made of fields, the verdict window's banks and live words, and the levels of the lines (chapter 8, 11.5). -/

namespace Sys2Proof.Machine

/-! ## Fields -/

theorem fld_of_lt {v width : Nat} (h : v < 2 ^ width) (lo : Nat) : fld v lo width = v * 2 ^ lo := by
  rw [fld, Nat.mod_eq_of_lt h]

theorem flag_eq (b : Bool) (i : Nat) : flag b i = b.toNat * 2 ^ i := by
  cases b <;> simp [flag]

theorem flag_eq_ite (b : Bool) (i : Nat) : flag b i = if b then 2 ^ i else 0 := rfl

theorem mkWord_eq {fs : List Nat} {n : Nat} (h : fs.sum = n) : mkWord fs = BitVec.ofNat 32 n := congrArg _ h

/-- A word has the value that its fields add up to, if that is a word's value. -/
theorem mkWord_toNat {fs : List Nat} {n : Nat} (h : fs.sum = n) (hn : n < 2 ^ 32) : (mkWord fs).toNat = n := by
  rw [mkWord_eq h, BitVec.toNat_ofNat, Nat.mod_eq_of_lt hn]

theorem CavState.code_le (st : CavState) : st.code ≤ 5 := by cases st <;> decide
theorem Outcome.code_pos_le (o : Outcome) : 1 ≤ o.code ∧ o.code ≤ 5 := by cases o <;> decide
theorem slotCode_le (k : Option (Fin 4)) : slotCode k ≤ 7 := by
  match k with
  | none => exact le_rfl
  | some k => exact (Nat.le_of_lt_succ k.isLt).trans (by decide)

/-- Flags at the bits 0 to `n - 1` add up to a number with exactly those bits. -/
theorem flags_testBit (f : Nat → Bool) (n : Nat) :
    ((List.range n).map fun k => flag (f k) k).sum < 2 ^ n ∧
      ∀ k, k < n → ((List.range n).map fun k => flag (f k) k).sum.testBit k = f k := by
  induction n with
  | zero => exact ⟨by simp, nofun⟩
  | succ n ih =>
    obtain ⟨hlt, hbit⟩ := ih
    rw [List.range_succ, List.map_append, List.sum_append, List.map_singleton, List.sum_singleton]
    generalize ((List.range n).map fun k => flag (f k) k).sum = x at hlt hbit
    have hpow : 2 ^ (n + 1) = 2 ^ n + 2 ^ n := by rw [pow_succ, Nat.mul_two]
    cases hf : f n with
    | false =>
      refine ⟨by simp only [flag, Bool.false_eq_true, if_false]; omega, fun k hk => ?_⟩
      rcases Nat.lt_succ_iff_lt_or_eq.mp hk with h | rfl
      · simpa [flag] using hbit k h
      · simpa [flag, hf] using Nat.testBit_lt_two_pow hlt
    | true =>
      refine ⟨by simp only [flag, if_true]; omega, fun k hk => ?_⟩
      simp only [flag, if_true]
      rw [Nat.add_comm]
      rcases Nat.lt_succ_iff_lt_or_eq.mp hk with h | rfl
      · rw [Nat.testBit_two_pow_add_gt h, hbit k h]
      · rw [Nat.testBit_two_pow_add_eq, Nat.testBit_lt_two_pow hlt, hf]
        rfl

theorem channelMask_getLsbD (chans : List Nat) (half : Nat) {k : Nat} (hk : k < 32) :
    (channelMask chans half).getLsbD k = chans.contains (32 * half + k) := by
  obtain ⟨hlt, hbit⟩ := flags_testBit (fun k => chans.contains (32 * half + k)) 32
  rw [← BitVec.testBit_toNat, channelMask, mkWord_toNat rfl hlt]
  exact hbit k hk

theorem channelMask_getLsbD_iff (chans : List Nat) (half : Nat) {k : Nat} (hk : k < 32) :
    (channelMask chans half).getLsbD k = true ↔ 32 * half + k ∈ chans := by
  rw [channelMask_getLsbD chans half hk, List.contains_iff_mem]

/-! ## Banks -/

theorem stateCounts_sum (xs : List CavityCtx) :
    (xs.countP fun v => v.state == .sound) + (xs.countP fun v => v.state == .watch) + (xs.countP fun v => v.state == .suspect) +
      (xs.countP fun v => v.state == .cracked) + (xs.countP fun v => v.state == .learning) +
      (xs.countP fun v => v.state == .excluded) = xs.length := by
  induction xs with
  | nil => rfl
  | cons x xs ih =>
    simp only [List.countP_cons, List.length_cons]
    cases x.state <;> simp <;> omega

section
variable (w1 w2 w3 : Word) (c : Context) (m : Nat → Nat) (windows : List Word)

theorem medianWords_length : (medianWords m).length = 4 := by simp [medianWords]
theorem cavityWords_length : (cavityWords c).length = 48 := by simp [cavityWords]
theorem responsiveWords_length : (responsiveWords c).length = 2 := rfl

theorem bankOf_length (h : windows.length = 4) : (bankOf w1 w2 w3 c m windows).length = 61 := by
  simp [bankOf, medianWords_length, cavityWords_length, responsiveWords_length, h]

theorem bankOf_head (i : Nat) (h : i < 3) : (bankOf w1 w2 w3 c m windows)[i]? = [w1, w2, w3][i]? := by
  simp only [bankOf, List.append_assoc]
  exact List.getElem?_append_left h

theorem bankOf_median (j : Nat) (h : j < 4) :
    (bankOf w1 w2 w3 c m windows)[3 + j]? = some (mkWord [fld (m (2 * j)) 0 16, fld (m (2 * j + 1)) 16 16]) := by
  simp only [bankOf, List.append_assoc]
  rw [List.getElem?_append_right (Nat.le_add_right 3 j), show 3 + j - [w1, w2, w3].length = j from Nat.add_sub_cancel_left ..,
    List.getElem?_append_left (by rw [medianWords_length]; exact h)]
  simp [medianWords, h]

theorem bankOf_cavity (i : Nat) (h : i < 48) :
    (bankOf w1 w2 w3 c m windows)[7 + i]? = some ((c.cavities[i]?).elim 0 verdictWord) := by
  have hpre : ([w1, w2, w3] ++ medianWords m).length = 7 := by simp [medianWords_length]
  rw [bankOf, List.append_assoc, List.append_assoc, List.getElem?_append_right (by omega), hpre, Nat.add_sub_cancel_left,
    List.getElem?_append_left (by rw [cavityWords_length]; exact h)]
  rw [cavityWords, List.getElem?_map, List.getElem?_range h]
  cases hc : c.cavities[i]? <;> simp [hc]

theorem bankOf_responsive (k : Nat) (h : k < 2) : (bankOf w1 w2 w3 c m windows)[55 + k]? =
    some (channelMask ((c.channels.filter fun x => x.responsive).map fun x => x.number) k) := by
  have hpre : ([w1, w2, w3] ++ medianWords m ++ cavityWords c).length = 55 := by
    simp [medianWords_length, cavityWords_length]
  rw [bankOf, List.append_assoc, List.getElem?_append_right (by omega), hpre, Nat.add_sub_cancel_left,
    List.getElem?_append_left (by rw [responsiveWords_length]; exact h)]
  match k, h with
  | 0, _ => rfl
  | 1, _ => rfl

theorem bankOf_window (i : Nat) : (bankOf w1 w2 w3 c m windows)[57 + i]? = windows[i]? := by
  have hpre : ([w1, w2, w3] ++ medianWords m ++ cavityWords c ++ responsiveWords c).length = 57 := by
    simp [medianWords_length, cavityWords_length, responsiveWords_length]
  rw [bankOf, List.getElem?_append_right (by omega), hpre, Nat.add_sub_cancel_left]

end

theorem verdictWord_toNat {v : CavityCtx} (hs : v.score ≤ 65535) (hc : v.confirm ≤ 7) :
    (verdictWord v).toNat = v.score + v.state.code * 2 ^ 16 + v.blind.toNat * 2 ^ 19 + v.bound.isSome.toNat * 2 ^ 20 +
      (v.bound.elim 0 Fin.val) * 2 ^ 21 + slotCode v.reported * 2 ^ 24 + v.confirm * 2 ^ 28 + 2 ^ 31 := by
  have hcode := v.state.code_le
  have hslot := slotCode_le v.reported
  have hblind := Bool.toNat_le v.blind
  have hsome := Bool.toNat_le v.bound.isSome
  have hbound : v.bound.elim 0 Fin.val ≤ 3 := by
    cases v.bound with
    | none => exact Nat.zero_le _
    | some k => exact Nat.le_of_lt_succ k.isLt
  have hword : verdictWord v = mkWord [fld v.score 0 16, fld v.state.code 16 3, flag v.blind 19, flag v.bound.isSome 20,
      fld (v.bound.elim 0 Fin.val) 21 2, fld (slotCode v.reported) 24 3, fld v.confirm 28 3, flag true 31] := by
    unfold verdictWord
    cases v.bound <;> rfl
  rw [hword]
  refine mkWord_toNat ?_ (by omega)
  rw [fld_of_lt (by omega), fld_of_lt (by omega), fld_of_lt (by omega), fld_of_lt (by omega), fld_of_lt (by omega)]
  repeat rw [List.sum_cons]
  rw [List.sum_nil]
  simp only [flag_eq, Bool.toNat_true]
  omega

theorem bankWord1_eq {cycle p kind : Nat} (hcycle : cycle < 65536) (hp : p ≤ 3) (hk : kind ≤ 3) (late long : Bool) :
    bankWord1 cycle p kind late long = BitVec.ofNat 32 (cycle + p * 2 ^ 16 + kind * 2 ^ 20 +
      (if late then 2 ^ 24 else 0) + if long then 2 ^ 25 else 0) := by
  refine mkWord_eq ?_
  rw [fld_of_lt (by omega), fld_of_lt (by omega), fld_of_lt (by omega)]
  repeat rw [List.sum_cons]
  rw [List.sum_nil]
  simp only [flag_eq_ite]
  omega

theorem bankWord2_eq {c : Context} (hc : c.cavities.length ≤ 48) :
    bankWord2 c = BitVec.ofNat 32 (stateCount c .sound + stateCount c .watch * 2 ^ 8 + stateCount c .suspect * 2 ^ 16 +
      stateCount c .cracked * 2 ^ 24) := by
  have hle : ∀ st, stateCount c st ≤ 48 := fun st => List.countP_le_length.trans hc
  have := hle .sound
  have := hle .watch
  have := hle .suspect
  have := hle .cracked
  refine mkWord_eq ?_
  rw [fld_of_lt (by omega), fld_of_lt (by omega), fld_of_lt (by omega), fld_of_lt (by omega)]
  repeat rw [List.sum_cons]
  rw [List.sum_nil]
  omega

theorem bankWord3_eq {c : Context} {blind seen : Nat} (hc : c.cavities.length ≤ 48) (hb : blind ≤ 48) (hs : seen ≤ 48) :
    bankWord3 c blind seen = BitVec.ofNat 32 (stateCount c .learning + stateCount c .excluded * 2 ^ 8 + blind * 2 ^ 16 +
      seen * 2 ^ 24) := by
  have hle : ∀ st, stateCount c st ≤ 48 := fun st => List.countP_le_length.trans hc
  have := hle .learning
  have := hle .excluded
  refine mkWord_eq ?_
  rw [fld_of_lt (by omega), fld_of_lt (by omega), fld_of_lt (by omega), fld_of_lt (by omega)]
  repeat rw [List.sum_cons]
  rw [List.sum_nil]
  omega

theorem windowWords_length (xs : List Assembler) : (windowWords xs).length = 4 := by simp [windowWords]

theorem windowWords_getElem? {xs : List Assembler} {i : Nat} {x : Assembler} (hlen : xs.length = 4) (hx : xs[i]? = some x)
    (hr : x.overrun ≤ 255 ∧ x.broken ≤ 255 ∧ x.gap ≤ 255) :
    (windowWords xs)[i]? = some (BitVec.ofNat 32 (x.overrun + x.broken * 2 ^ 8 + x.gap * 2 ^ 16 +
      if x.silenceLatch then 2 ^ 24 else 0)) := by
  obtain ⟨ho, hb, hg⟩ := hr
  have hi : i < 4 := hlen ▸ (List.getElem?_eq_some_iff.mp hx).1
  rw [windowWords, List.getElem?_map, List.getElem?_range hi, Option.map_some, List.getD_eq_getElem?_getD, hx,
    Option.getD_some]
  refine congrArg some (mkWord_eq ?_)
  rw [fld_of_lt (by omega), fld_of_lt (by omega), fld_of_lt (by omega)]
  repeat rw [List.sum_cons]
  rw [List.sum_nil]
  simp only [flag_eq_ite]
  omega

theorem medianWord_eq {m : Nat → Nat} (h : ∀ g, m g ≤ 65535) (a b : Nat) :
    mkWord [fld (m a) 0 16, fld (m b) 16 16] = BitVec.ofNat 32 (m a + m b * 2 ^ 16) := by
  have := h a
  have := h b
  refine mkWord_eq ?_
  rw [fld_of_lt (by omega), fld_of_lt (by omega)]
  repeat rw [List.sum_cons]
  rw [List.sum_nil]
  omega

theorem someLong_iff (rs : List ChanResult) (q : ProfilePlan) :
    someLong rs q = true ↔ ∃ r ∈ rs, r.acc.long = true ∧ r.number ∈ q.chans := by
  simp [someLong]

theorem activationCycle (s : State) (p : Nat) (c : Context) : activationBank s p c =
    bankOf (bankWord1 ((s.tracker.last.map fun w => w.cycle).getD 0) p 2 false false) (bankWord2 c)
      (bankWord3 c (c.cavities.countP fun x => x.blind) 0) c (fun _ => 256) [0, 0, 0, 0] := by
  unfold activationBank
  cases s.tracker.last <;> rfl

/-- Settles O38: each word of a bank is found at its place, and its fields are in range. -/
theorem bankWords : Obligations.BankWords := by
  refine ⟨fun s p c outs median long hc hout hp hcycle hmed hasm hcounts hlast => ?_,
    fun v hs hconf => ?_, someLong_iff⟩
  · intro close act n all seen blind
    have hclose : close = bankOf (bankWord1 s.tracker.openCycle p 1 s.tracker.lateStart long) (bankWord2 c)
        (bankWord3 c blind seen) c median (windowWords s.asm) := rfl
    have hact : act = _ := activationCycle s p c
    have hcyc : (s.tracker.last.map fun w => w.cycle).getD 0 < 65536 := by
      cases hl : s.tracker.last with
      | none => exact Nat.zero_lt_succ _
      | some w => exact hlast w hl
    have hblind : blind ≤ 48 := List.countP_le_length.trans hout
    have hseen : seen ≤ 48 := List.countP_le_length.trans hout
    have hcb : (c.cavities.countP fun v => v.blind) ≤ 48 := List.countP_le_length.trans hc
    rw [hclose, hact]
    refine ⟨bankOf_length _ _ _ _ _ _ (windowWords_length _), bankOf_length _ _ _ _ _ _ rfl, ?_, ?_, ?_, ?_, ?_, ?_,
      stateCounts_sum c.cavities, fun j hj => ⟨?_, ?_⟩, fun i v hv => ?_, fun i hi hlt => ?_, fun h hh => ?_, fun i x hx => ⟨?_, ?_⟩⟩
    · rw [bankOf_head _ _ _ _ _ _ 0 (by decide), bankWord1_eq hcycle hp (by decide), Nat.one_mul]
      rfl
    · rw [bankOf_head _ _ _ _ _ _ 0 (by decide), bankWord1_eq hcyc hp (by decide)]
      simp only [Bool.false_eq_true, if_false, Nat.add_zero]
      rfl
    · rw [bankOf_head _ _ _ _ _ _ 1 (by decide), bankWord2_eq hc]
      rfl
    · rw [bankOf_head _ _ _ _ _ _ 1 (by decide), bankWord2_eq hc]
      rfl
    · rw [bankOf_head _ _ _ _ _ _ 2 (by decide), bankWord3_eq hc hblind hseen]
      rfl
    · rw [bankOf_head _ _ _ _ _ _ 2 (by decide), bankWord3_eq hc hcb (by decide), Nat.zero_mul, Nat.add_zero]
      rfl
    · rw [bankOf_median _ _ _ _ _ _ j hj, medianWord_eq hmed]
    · rw [bankOf_median _ _ _ _ _ _ j hj, medianWord_eq (m := fun _ => 256) (fun _ => by decide) (2 * j) (2 * j + 1)]
    · have hi : i < 48 := (List.getElem?_eq_some_iff.mp hv).1.trans_le hc
      rw [bankOf_cavity _ _ _ _ _ _ i hi, bankOf_cavity _ _ _ _ _ _ i hi, hv]
      exact ⟨rfl, rfl⟩
    · rw [bankOf_cavity _ _ _ _ _ _ i hlt, bankOf_cavity _ _ _ _ _ _ i hlt, List.getElem?_eq_none hi]
      exact ⟨rfl, rfl⟩
    · refine ⟨_, bankOf_responsive _ _ _ _ _ _ h hh, bankOf_responsive _ _ _ _ _ _ h hh, fun k hk => ?_⟩
      rw [channelMask_getLsbD_iff _ _ hk]
      simp only [List.mem_map, List.mem_filter]
      exact exists_congr fun x => ⟨fun ⟨⟨hm, hr⟩, hn⟩ => ⟨hm, hn, hr⟩, fun ⟨hm, hn, hr⟩ => ⟨⟨hm, hr⟩, hn⟩⟩
    · have hi : i < 4 := hasm ▸ (List.getElem?_eq_some_iff.mp hx).1
      rw [bankOf_window]
      match i, hi with
      | 0, _ | 1, _ | 2, _ | 3, _ => rfl
    · rw [bankOf_window, windowWords_getElem? hasm hx (hcounts x (List.mem_of_getElem? hx))]
  · have hw := verdictWord_toNat hs hconf
    have hcode := v.state.code_le
    have hslot := slotCode_le v.reported
    have hblind := Bool.toNat_le v.blind
    have hsome := Bool.toNat_le v.bound.isSome
    have hbound : v.bound.elim 0 Fin.val ≤ 3 := by
      cases v.bound with
      | none => exact Nat.zero_le _
      | some k => exact Nat.le_of_lt_succ k.isLt
    have hrep : (verdictWord v).toNat / 2 ^ 24 % 8 = slotCode v.reported := by omega
    refine ⟨by omega, by omega, ?_, ?_, fun k hk => ?_, ?_, by omega, by omega⟩
    · rw [← Bool.toNat_eq_one]
      omega
    · rw [← Option.isSome_iff_ne_none, ← Bool.toNat_eq_one]
      omega
    · have helim : v.bound.elim 0 Fin.val = k.val := by rw [hk]; rfl
      omega
    · rw [hrep]
      cases v.reported <;> rfl

/-! ## Live words -/

theorem RunState.code_le (r : RunState) : r.code ≤ 2 := by cases r <;> decide
theorem PlanFault.code_le (f : PlanFault) : f.code ≤ 8 := by cases f <;> decide
theorem TrackerState.code_le (t : TrackerState) : t.code ≤ 3 := by cases t <;> decide

theorem shownFault_le (s : State) : (if s.loader.run = .noPlan then s.loader.fault.code else 0) ≤ 8 := by
  split
  · exact s.loader.fault.code_le
  · exact Nat.zero_le _

theorem active_getD_le {s : State} (ha : ∀ p, s.tracker.active = some p → p ≤ 3) : s.tracker.active.getD 7 ≤ 7 := by
  cases h : s.tracker.active with
  | none => exact le_rfl
  | some p => exact (ha p h).trans (by decide)

theorem liveWord_toNat {s : State} (ha : ∀ p, s.tracker.active = some p → p ≤ 3) (hm : s.out.marks.length ≤ 8) :
    ∃ id, id ≤ 15 ∧ (s.tracker.active = none → id = 0) ∧
      (∀ pl p q, s.loader.plan = some pl → s.tracker.active = some p → pl.profiles[p]? = some q → q.mouldId ≤ 15 → id = q.mouldId) ∧
      (liveWord s).toNat = s.loader.run.code + (if s.loader.run = .noPlan then s.loader.fault.code else 0) * 2 ^ 4 +
        s.tracker.state.code * 2 ^ 8 + s.tracker.active.getD 7 * 2 ^ 10 + id * 2 ^ 16 + s.out.stopLatch.toNat * 2 ^ 20 +
        s.stopLine.toNat * 2 ^ 21 + s.out.marks.length * 2 ^ 24 + s.out.pulse.isSome.toNat * 2 ^ 28 := by
  have hrun := s.loader.run.code_le
  have hfault := shownFault_le s
  have hstate := s.tracker.state.code_le
  have hactive := active_getD_le ha
  have hlatch := Bool.toNat_le s.out.stopLatch
  have hstop := Bool.toNat_le s.stopLine
  have hpulse := Bool.toNat_le s.out.pulse.isSome
  have hword : ∃ x, liveWord s = mkWord [fld s.loader.run.code 0 2,
      fld (if s.loader.run = .noPlan then s.loader.fault.code else 0) 4 4, fld s.tracker.state.code 8 2,
      fld (s.tracker.active.getD 7) 10 3, fld x 16 4, flag s.out.stopLatch 20, flag s.stopLine 21,
      fld s.out.marks.length 24 4, flag s.out.pulse.isSome 28] ∧ (s.tracker.active = none → x = 0) ∧
      ∀ pl p q, s.loader.plan = some pl → s.tracker.active = some p → pl.profiles[p]? = some q → x = q.mouldId := by
    refine ⟨_, rfl, fun hnone => ?_, fun pl p q hpl hp hq => ?_⟩
    · rw [hnone]
    · rw [hp, hpl]
      dsimp only
      rw [hq]
      rfl
  obtain ⟨x, hx, hnone, hsome⟩ := hword
  refine ⟨x % 16, by omega, fun h => by rw [hnone h], fun pl p q hpl hp hq hid => by rw [hsome pl p q hpl hp hq]; omega, ?_⟩
  have hid : fld x 16 4 = x % 16 * 2 ^ 16 := rfl
  rw [hx]
  refine mkWord_toNat ?_ (by omega)
  rw [hid, fld_of_lt (by omega), fld_of_lt (by omega), fld_of_lt (by omega), fld_of_lt (by omega), fld_of_lt (by omega)]
  repeat rw [List.sum_cons]
  rw [List.sum_nil]
  simp only [flag_eq]
  omega

theorem definedWord_active {s : State} {pl : Plan} {p : Nat} (half : Nat) (hpl : s.loader.plan = some pl)
    (ha : s.tracker.active = some p) : definedWord s half = channelMask pl.definedChans half := by
  rw [definedWord, ha, hpl]

theorem definedWord_inactive {s : State} (half : Nat) (ha : s.tracker.active = none) : definedWord s half = 0 := by
  rw [definedWord, ha]

/-- Settles O40: the fields of the live word, the mask of the defined channels, and the lines of the outputs. -/
theorem liveWordsAndLines : Obligations.LiveWordsAndLines := by
  refine ⟨⟨fun s ha hm => ?_, fun s half k hh hk => ⟨fun pl p hpl ha => ?_, fun ha => definedWord_inactive half ha⟩⟩,
    fun s => ⟨fun hlow => ?_, fun hlow hnone => ?_, fun high hlow hhigh => ?_, fun hlow => ?_, fun hlow => ?_⟩⟩
  · obtain ⟨id, hid, hnone, hsome, hw⟩ := liveWord_toNat ha hm
    have hrun := s.loader.run.code_le
    have hfault := shownFault_le s
    have hstate := s.tracker.state.code_le
    have hactive := active_getD_le ha
    have hlatch := Bool.toNat_le s.out.stopLatch
    have hstop := Bool.toNat_le s.stopLine
    have hpulse := Bool.toNat_le s.out.pulse.isSome
    have hmould : (liveWord s).toNat / 2 ^ 16 % 16 = id := by omega
    refine ⟨by omega, by omega, by omega, by omega, fun pl p q hpl hp hq hle => ?_, fun h => ?_, ?_, ?_, by omega, ?_⟩
    · exact hmould.trans (hsome pl p q hpl hp hq hle)
    · exact hmould.trans (hnone h)
    · rw [← Bool.toNat_eq_one]
      omega
    · rw [← Bool.toNat_eq_one]
      omega
    · rw [← Option.isSome_iff_ne_none, ← Bool.toNat_eq_one]
      omega
  · rw [definedWord_active half hpl ha, channelMask_getLsbD_iff _ _ hk, Plan.definedChans, List.mem_filter, List.mem_range]
    exact ⟨And.right, fun h => ⟨by omega, h⟩⟩
  · simp [State.stopLine, State.markLine, State.attnLine, hlow]
  · simp [State.stopLine, hlow, hnone]
  · rw [State.stopLine, hlow, hhigh]
    cases s.out.stopLatch <;> cases high <;> decide
  · simp [State.markLine, hlow, Option.isSome_iff_ne_none]
  · simp [State.attnLine, hlow]

end Sys2Proof.Machine
end

section
/-! PROOFS. The records of a close: which cavities have one, where it goes, and its words (8.3, 11.6). -/

namespace Sys2Proof.Machine

/-! ## Which cavities have a record -/

theorem changed_iff (o : CavOut) : o.changed = true ↔
    o.before.state ≠ o.after.state ∨ o.before.blind ≠ o.after.blind ∨ o.before.bound ≠ o.after.bound ∨
      o.before.reported ≠ o.after.reported ∨ o.lost ≠ none := by
  simp only [CavOut.changed, CavOut.stateChanged, CavOut.blindChanged, CavOut.boundChanged, CavOut.reportedChanged,
    Bool.or_eq_true, bne_iff_ne, Option.isSome_iff_ne_none, or_assoc]

theorem evaluated_iff (o : CavOut) : o.evaluated = true ↔ o.before.state ≠ .excluded := bne_iff_ne

theorem hasRecord_iff (q : ProfilePlan) (o : CavOut) : hasRecord q o = true ↔
    o.before.state ≠ .excluded ∧ (q.recordMode = .every ∨ (q.recordMode = .onChange ∧ o.changed = true)) := by
  unfold hasRecord
  cases q.recordMode <;> simp [evaluated_iff]

theorem recordAddr_eq (q : ProfilePlan) (o : CavOut) :
    recordAddr q o = if q.recordFormat = .short then q.recordOrigin + 32 * o.number else o.plan.longAddr := by
  unfold recordAddr
  cases q.recordFormat <;> rfl

theorem recordItems_append (s : State) (p : Nat) (q : ProfilePlan) (rs : List ChanResult) (xs ys : List CavOut) :
    recordItems s p q rs (xs ++ ys) = recordItems s p q rs xs ++ recordItems s p q rs ys := by
  simp [recordItems]

/-! ## The words of a record -/

theorem reportedWords_pair (rs : List ChanResult) (o : CavOut) : ∃ x y, reportedWords rs o = [x, y] := by
  unfold reportedWords
  split
  · exact ⟨_, _, rfl⟩
  · split <;> exact ⟨_, _, rfl⟩

theorem slotRecord_pair (rs : List ChanResult) (o : CavOut) (k : Fin 4) : ∃ x y, slotRecord rs o k = [x, y] := by
  unfold slotRecord
  split <;> exact ⟨_, _, rfl⟩

section
variable (s : State) (p : Nat) (q : ProfilePlan) (rs : List ChanResult) (o : CavOut)

theorem shortRecord_length : (shortRecord s p rs o).length = 8 := by
  obtain ⟨x, y, h⟩ := reportedWords_pair rs o
  simp [shortRecord, h]

theorem slotRecords_eq : ∃ a b c d e f g h, slots4.flatMap (slotRecord rs o) = [a, b, c, d, e, f, g, h] ∧
    slotRecord rs o 0 = [a, b] ∧ slotRecord rs o 1 = [c, d] ∧ slotRecord rs o 2 = [e, f] ∧ slotRecord rs o 3 = [g, h] := by
  obtain ⟨a, b, h0⟩ := slotRecord_pair rs o 0
  obtain ⟨c, d, h1⟩ := slotRecord_pair rs o 1
  obtain ⟨e, f, h2⟩ := slotRecord_pair rs o 2
  obtain ⟨g, h, h3⟩ := slotRecord_pair rs o 3
  exact ⟨a, b, c, d, e, f, g, h, by simp [slots4, h0, h1, h2, h3], h0, h1, h2, h3⟩

theorem recordWords_length : (recordWords s p q rs o).length = if q.recordFormat = .short then 8 else 16 := by
  obtain ⟨a, b, c, d, e, f, g, h, hs, -⟩ := slotRecords_eq rs o
  unfold recordWords
  cases q.recordFormat
  · exact shortRecord_length s p rs o
  · simp [shortRecord_length, hs]

/-- Every record begins with the words of a SHORT one (11.6). -/
theorem recordWords_getD {i : Nat} (hi : i < 8) : (recordWords s p q rs o).getD i 0 = (shortRecord s p rs o).getD i 0 := by
  unfold recordWords
  cases q.recordFormat
  · rfl
  · exact List.getD_append _ _ _ _ (by rw [shortRecord_length]; exact hi)

/-- The two words of a slot stand behind the SHORT part of a LONG record (11.6). -/
theorem recordWords_slot (hq : q.recordFormat = .long) (k : Fin 4) {x y : Word} (h : slotRecord rs o k = [x, y]) :
    (recordWords s p q rs o).getD (8 + 2 * k.val) 0 = x ∧ (recordWords s p q rs o).getD (9 + 2 * k.val) 0 = y := by
  obtain ⟨a, b, c, d, e, f, g, z, hs, h0, h1, h2, h3⟩ := slotRecords_eq rs o
  have hlong : ∀ j, (recordWords s p q rs o).getD (8 + j) 0 = [a, b, c, d, e, f, g, z].getD j 0 := by
    intro j
    have hlen := shortRecord_length s p rs o
    rw [recordWords, hq]
    dsimp only
    rw [List.getD_append_right _ _ _ _ (by omega), hs, hlen, Nat.add_sub_cancel_left]
  rw [hlong, show 9 + 2 * k.val = 8 + (2 * k.val + 1) by omega, hlong]
  fin_cases k
  · cases h0.symm.trans h; exact ⟨rfl, rfl⟩
  · cases h1.symm.trans h; exact ⟨rfl, rfl⟩
  · cases h2.symm.trans h; exact ⟨rfl, rfl⟩
  · cases h3.symm.trans h; exact ⟨rfl, rfl⟩

end

section
variable {s : State} {p : Nat} {rs : List ChanResult} {o : CavOut}

theorem recordWord0_toNat (hc : s.tracker.openCycle < 65536) : ((shortRecord s p rs o).getD 0 0).toNat =
    s.tracker.openCycle + o.stateChanged.toNat * 2 ^ 16 + o.blindChanged.toNat * 2 ^ 17 + o.boundChanged.toNat * 2 ^ 18 +
      o.reportedChanged.toNat * 2 ^ 19 + o.lost.isSome.toNat * 2 ^ 20 + o.enteredCracked.toNat * 2 ^ 21 +
      s.tracker.lateStart.toNat * 2 ^ 22 + o.q.isSome.toNat * 2 ^ 23 := by
  have := Bool.toNat_le o.stateChanged
  have := Bool.toNat_le o.blindChanged
  have := Bool.toNat_le o.boundChanged
  have := Bool.toNat_le o.reportedChanged
  have := Bool.toNat_le o.lost.isSome
  have := Bool.toNat_le o.enteredCracked
  have := Bool.toNat_le s.tracker.lateStart
  have := Bool.toNat_le o.q.isSome
  refine mkWord_toNat ?_ (by omega)
  rw [fld_of_lt (by omega)]
  repeat rw [List.sum_cons]
  rw [List.sum_nil]
  simp only [flag_eq]
  omega

/-- The fields of record word 0 (11.6). -/
theorem recordWord0_fields {w : Nat} (hc : s.tracker.openCycle < 65536)
    (hw : w = s.tracker.openCycle + o.stateChanged.toNat * 2 ^ 16 + o.blindChanged.toNat * 2 ^ 17 +
      o.boundChanged.toNat * 2 ^ 18 + o.reportedChanged.toNat * 2 ^ 19 + o.lost.isSome.toNat * 2 ^ 20 +
      o.enteredCracked.toNat * 2 ^ 21 + s.tracker.lateStart.toNat * 2 ^ 22 + o.q.isSome.toNat * 2 ^ 23) :
    w % 2 ^ 16 = s.tracker.openCycle ∧ (w / 2 ^ 16 % 2 = 1 ↔ o.before.state ≠ o.after.state) ∧
      (w / 2 ^ 17 % 2 = 1 ↔ o.before.blind ≠ o.after.blind) ∧ (w / 2 ^ 18 % 2 = 1 ↔ o.before.bound ≠ o.after.bound) ∧
      (w / 2 ^ 19 % 2 = 1 ↔ o.before.reported ≠ o.after.reported) ∧ (w / 2 ^ 20 % 2 = 1 ↔ o.lost ≠ none) ∧
      (w / 2 ^ 21 % 2 = 1 ↔ o.before.state ≠ .cracked ∧ o.after.state = .cracked) ∧
      (w / 2 ^ 22 % 2 = 1 ↔ s.tracker.lateStart = true) ∧ (w / 2 ^ 23 = 1 ↔ o.q ≠ none) := by
  have h1 : o.stateChanged.toNat = 1 ↔ o.before.state ≠ o.after.state := Bool.toNat_eq_one.trans bne_iff_ne
  have h2 : o.blindChanged.toNat = 1 ↔ o.before.blind ≠ o.after.blind := Bool.toNat_eq_one.trans bne_iff_ne
  have h3 : o.boundChanged.toNat = 1 ↔ o.before.bound ≠ o.after.bound := Bool.toNat_eq_one.trans bne_iff_ne
  have h4 : o.reportedChanged.toNat = 1 ↔ o.before.reported ≠ o.after.reported := Bool.toNat_eq_one.trans bne_iff_ne
  have h5 : o.lost.isSome.toNat = 1 ↔ o.lost ≠ none := Bool.toNat_eq_one.trans Option.isSome_iff_ne_none
  have h6 : o.enteredCracked.toNat = 1 ↔ o.before.state ≠ .cracked ∧ o.after.state = .cracked :=
    Bool.toNat_eq_one.trans (enteredCracked_iff o)
  have h7 : s.tracker.lateStart.toNat = 1 ↔ s.tracker.lateStart = true := Bool.toNat_eq_one
  have h8 : o.q.isSome.toNat = 1 ↔ o.q ≠ none := Bool.toNat_eq_one.trans Option.isSome_iff_ne_none
  have := Bool.toNat_le o.stateChanged
  have := Bool.toNat_le o.blindChanged
  have := Bool.toNat_le o.boundChanged
  have := Bool.toNat_le o.reportedChanged
  have := Bool.toNat_le o.lost.isSome
  have := Bool.toNat_le o.enteredCracked
  have := Bool.toNat_le s.tracker.lateStart
  have := Bool.toNat_le o.q.isSome
  rw [← h1, ← h2, ← h3, ← h4, ← h5, ← h6, ← h7, ← h8]
  refine ⟨?_, ?_, ?_, ?_, ?_, ?_, ?_, ?_, ?_⟩ <;> omega

theorem recordWord2_toNat (he : o.evidence ≤ 255) (hv : o.v ≤ 255) (ha : o.a ≤ 255) (hn : o.number < 48) :
    ((shortRecord s p rs o).getD 2 0).toNat = o.evidence + o.v * 2 ^ 8 + o.a * 2 ^ 16 + o.number * 2 ^ 24 := by
  refine mkWord_toNat ?_ (by omega)
  rw [fld_of_lt (by omega), fld_of_lt (by omega), fld_of_lt (by omega), fld_of_lt (by omega)]
  repeat rw [List.sum_cons]
  rw [List.sum_nil]
  omega

/-- A word of two fields, the upper one at bit 16. -/
theorem pairWord_toNat {x y n : Nat} (hx : x < 65536) (hy : y < 2 ^ n) (hn : n ≤ 16) :
    (mkWord [fld x 0 16, fld y 16 n]).toNat = x + y * 2 ^ 16 := by
  have hy' : y < 65536 := hy.trans_le (Nat.pow_le_pow_right (by decide) hn)
  refine mkWord_toNat ?_ (by omega)
  rw [fld_of_lt (by omega), fld_of_lt hy]
  repeat rw [List.sum_cons]
  rw [List.sum_nil]
  omega

/-- The word of a channel's figures: its RMS, its qualified hits and its number. -/
theorem figuresWord_toNat {x y n : Nat} (hx : x < 65536) (hy : y < 256) (hn : n < 64) :
    (mkWord [fld x 0 16, fld y 16 8, fld n 24 6]).toNat = x + y * 2 ^ 16 + n * 2 ^ 24 := by
  refine mkWord_toNat ?_ (by omega)
  rw [fld_of_lt (by omega), fld_of_lt (by omega), fld_of_lt (by omega)]
  repeat rw [List.sum_cons]
  rw [List.sum_nil]
  omega

/-- The word of a considered slot: its ratio, its channel's outcome, whether it has a ratio, and its channel. -/
theorem ratioWord_toNat {x c n : Nat} {b : Bool} (hx : x < 65536) (hc : c < 8) (hn : n < 64) :
    (mkWord [fld x 0 16, fld c 16 3, flag b 19, fld n 24 6]).toNat =
      x + c * 2 ^ 16 + b.toNat * 2 ^ 19 + n * 2 ^ 24 := by
  have := Bool.toNat_le b
  refine mkWord_toNat ?_ (by omega)
  rw [fld_of_lt (by omega), fld_of_lt (by omega), fld_of_lt (by omega)]
  repeat rw [List.sum_cons]
  rw [List.sum_nil]
  simp only [flag_eq]
  omega

/-- What the reported slot's channel puts into words 4 and 5. -/
theorem reportedWords_some {k : Fin 4} {r : ChanResult} (hk : o.after.reported = some k)
    (hr : resultOf rs (o.plan.chan k) = some r) : reportedWords rs o =
      [mkWord [fld r.rms 0 16, fld r.acc.qualified 16 8, fld (o.plan.chan k) 24 6],
       mkWord [fld r.acc.peak 0 16, fld r.outcome.code 16 3]] := by
  rw [reportedWords, reportedChan, hk, Option.map_some]
  dsimp only
  rw [hr]

theorem reportedWords_none (hk : o.after.reported = none) : reportedWords rs o = [0, 0] := by
  rw [reportedWords, reportedChan, hk, Option.map_none]

theorem shortRecord_reported {x y : Word} (h : reportedWords rs o = [x, y]) :
    (shortRecord s p rs o).getD 4 0 = x ∧ (shortRecord s p rs o).getD 5 0 = y := by
  rw [shortRecord, h]
  exact ⟨rfl, rfl⟩

theorem shortRecord_tail : (shortRecord s p rs o).getD 6 0 = mkWord [fld o.before.score 0 16, fld o.before.state.code 16 3] ∧
    (shortRecord s p rs o).getD 7 0 = mkWord [fld s.tracker.openCycle 0 16, fld p 16 2] := by
  obtain ⟨x, y, h⟩ := reportedWords_pair rs o
  rw [shortRecord, h]
  exact ⟨rfl, rfl⟩

theorem resultOf_spec {n : Nat} {r : ChanResult} (h : resultOf rs n = some r) : r ∈ rs ∧ r.number = n :=
  ⟨List.mem_of_find?_eq_some h, by simpa using List.find?_some h⟩

theorem slotRecord_idle {k : Fin 4} (h : ∀ x ∈ o.slots, x.slot ≠ k) :
    slotRecord rs o k = [mkWord [fld (idleOutcome rs o.plan k) 16 3], 0] := by
  have hnone : (o.slots.find? fun x => x.slot == k) = none := List.find?_eq_none.mpr (by simpa using h)
  unfold slotRecord
  rw [hnone]

theorem slotRecord_considered {k : Fin 4} {x : SlotWork} {r : ChanResult}
    (hp : o.slots.Pairwise fun x y => x.slot < y.slot) (hx : x ∈ o.slots) (hk : x.slot = k)
    (hr : resultOf rs (o.plan.chan k) = some r) :
    slotRecord rs o k =
      [mkWord [fld (x.ratio.getD 0) 0 16, fld r.outcome.code 16 3, flag x.ratio.isSome 19, fld r.number 24 6],
       mkWord [fld r.rms 0 16, fld r.acc.qualified 16 8]] := by
  have hsome : (o.slots.find? fun y => y.slot == k) = some x := by
    obtain ⟨y, hy⟩ := Option.isSome_iff_exists.mp
      (List.find?_isSome (p := fun y : SlotWork => y.slot == k).mpr ⟨x, hx, beq_iff_eq.mpr hk⟩)
    have hyk : y.slot = k := beq_iff_eq.mp (List.find?_some (p := fun y : SlotWork => y.slot == k) hy)
    rw [hy, eq_of_slot_eq hp (List.mem_of_find?_eq_some hy) hx (hyk.trans hk.symm)]
  unfold slotRecord
  rw [hsome, hr]

theorem idleWord_toNat {n : Nat} (h : n ≤ 7) : (mkWord [fld n 16 3]).toNat = n * 2 ^ 16 := by
  refine mkWord_toNat ?_ (by omega)
  rw [fld_of_lt (by omega), List.sum_singleton]

theorem idleOutcome_bad {k : Fin 4} {c : Outcome} (hk : o.plan.has k = true)
    (hc : outcomeAt rs (o.plan.chan k) = some c) (hg : c ≠ .good) : idleOutcome rs o.plan k = c.code := by
  rw [idleOutcome, hk, hc]
  cases c with
  | good => exact absurd rfl hg
  | _ => rfl

theorem idleOutcome_seven {k : Fin 4} (h : o.plan.has k = false ∨ outcomeAt rs (o.plan.chan k) = some .good) :
    idleOutcome rs o.plan k = 7 := by
  unfold idleOutcome
  split
  · rfl
  next hk hc hg =>
    rcases h with h | h
    · cases h.symm.trans hc
    · exact absurd (Option.some.inj (hg.symm.trans h)) hk
  · rfl
  · rfl

end

theorem mapIdx_posts (a : Nat) (ws : List Word) :
    (wordsFrom a ws).map (fun x => StepItem.post x.1 x.2) = ws.mapIdx fun i w => .post (a + 4 * i) w := by
  rw [wordsFrom_eq_mapIdx, map_mapIdx]

/-- Settles O39: the record of a cavity follows from its mode, its format and the fields of its words. -/
theorem recordWords_fields : Obligations.RecordWords := by
  refine ⟨fun s p q rs xs ys o => ?_, fun s p q rs o hp hc he hv ha hn hm hq hs hrs => ?_⟩
  · intro changed posted a
    have hposted : hasRecord q o = true ↔ posted := by rw [hasRecord_iff, changed_iff]
    refine ⟨fun h => ?_, fun h => ?_, recordItems_append .., recordWords_length ..⟩
    · rw [recordItems, List.filter_cons_of_pos (hposted.mpr h), List.filter_nil, List.flatMap_cons, List.flatMap_nil,
        List.append_nil, mapIdx_posts, recordAddr_eq]
    · rw [recordItems, List.filter_cons_of_neg fun hr => h (hposted.mp hr)]
      rfl
  · intro f
    have hshort : ∀ i, i < 8 → f i = ((shortRecord s p rs o).getD i 0).toNat := fun i hi =>
      congrArg BitVec.toNat (recordWords_getD s p q rs o hi)
    have hslot : ∀ (k : Fin 4) x y, q.recordFormat = .long → slotRecord rs o k = [x, y] →
        f (8 + 2 * k.val) = x.toNat ∧ f (9 + 2 * k.val) = y.toNat := by
      intro k x y hlong hpair
      obtain ⟨hx, hy⟩ := recordWords_slot s p q rs o hlong k hpair
      exact ⟨congrArg BitVec.toNat hx, congrArg BitVec.toNat hy⟩
    have hcode := o.before.state.code_le
    obtain ⟨h6, h7⟩ := shortRecord_tail (s := s) (p := p) (rs := rs) (o := o)
    have hw0 := (hshort 0 (by decide)).trans (recordWord0_toNat hc)
    have hw2 := (hshort 2 (by decide)).trans (recordWord2_toNat he hv ha hn)
    have hw3 : f 3 = o.q.getD 0 + o.median * 2 ^ 16 :=
      (hshort 3 (by decide)).trans (pairWord_toNat (n := 16) (by omega) (by omega) le_rfl)
    have hw6 : f 6 = o.before.score + o.before.state.code * 2 ^ 16 :=
      (hshort 6 (by decide)).trans (h6 ▸ pairWord_toNat (n := 3) (by omega) (by omega) (by decide))
    have hw7 : f 7 = s.tracker.openCycle + p * 2 ^ 16 :=
      (hshort 7 (by decide)).trans (h7 ▸ pairWord_toNat (n := 2) (by omega) (by omega) (by decide))
    refine ⟨?_, hshort 1 (by decide), by omega, by omega, fun hnone => ?_, fun k r hk hr => ?_, by omega, by omega,
      fun hlong hpair k => ⟨fun hidle => ?_, fun x r hx hk hratio hr => ?_⟩⟩
    · exact recordWord0_fields hc hw0
    · obtain ⟨h4, h5⟩ := shortRecord_reported (s := s) (p := p) (reportedWords_none hnone (rs := rs))
      rw [hshort 4 (by decide), hshort 5 (by decide), h4, h5]
      exact ⟨rfl, rfl⟩
    · obtain ⟨hmem, hnum⟩ := resultOf_spec hr
      obtain ⟨hlt, hrms, hqual, hpeak⟩ := hrs r hmem
      obtain ⟨h4, h5⟩ := shortRecord_reported (s := s) (p := p) (reportedWords_some hk hr)
      obtain ⟨-, hout⟩ := r.outcome.code_pos_le
      have hw4 : f 4 = r.rms + r.acc.qualified * 2 ^ 16 + o.plan.chan k * 2 ^ 24 :=
        (hshort 4 (by decide)).trans (h4 ▸ figuresWord_toNat (by omega) (by omega) (by omega))
      have hw5 : f 5 = r.acc.peak + r.outcome.code * 2 ^ 16 :=
        (hshort 5 (by decide)).trans (h5 ▸ pairWord_toNat (n := 3) (by omega) (by omega) (by decide))
      omega
    · obtain ⟨h8, h9⟩ := hslot k _ _ hlong (slotRecord_idle hidle)
      refine ⟨h9, fun r hk hr hg => ?_, fun hno => ?_⟩
      · obtain ⟨-, hout⟩ := r.code_pos_le
        rw [h8, idleOutcome_bad hk hr hg, idleWord_toNat (by omega)]
      · rw [h8, idleOutcome_seven hno, idleWord_toNat le_rfl]
    · obtain ⟨hmem, hnum⟩ := resultOf_spec hr
      obtain ⟨hlt, hrms, hqual, -⟩ := hrs r hmem
      obtain ⟨-, hout⟩ := r.outcome.code_pos_le
      obtain ⟨h8, h9⟩ := hslot k _ _ hlong (slotRecord_considered hpair hx hk hr)
      have hw8 := h8.trans (ratioWord_toNat (b := x.ratio.isSome) (by omega) (by omega) (by omega))
      have hw9 : f (9 + 2 * k.val) = r.rms + r.acc.qualified * 2 ^ 16 :=
        h9.trans (pairWord_toNat (n := 8) (by omega) (by omega) (by decide))
      have hb := Bool.toNat_le x.ratio.isSome
      refine ⟨by omega, by omega, ?_, by omega, by omega, by omega⟩
      rw [← Option.isSome_iff_ne_none, ← Bool.toNat_eq_one]
      omega

end Sys2Proof.Machine
end

section
/-! PROOFS. Context images: what the two checks ask of their words, and that a saved image gives its context back
(chapter 6, 11.8). -/

namespace Sys2Proof.Machine

/-! ## Lists cut into pieces of one length -/

section
variable {α β : Type} {f : α → List β} {n : Nat}

theorem flatMap_length_of_const (h : ∀ x, (f x).length = n) (xs : List α) : (xs.flatMap f).length = n * xs.length := by
  induction xs with
  | nil => rfl
  | cons x xs ih => rw [List.flatMap_cons, List.length_append, h, ih, List.length_cons, Nat.mul_succ, Nat.add_comm]

/-- Item `r` of piece `i`. -/
theorem flatMap_getElem?_of_const (h : ∀ x, (f x).length = n) (xs : List α) (i : Nat) {r : Nat} (hr : r < n) :
    (xs.flatMap f)[n * i + r]? = (xs[i]?).bind fun x => (f x)[r]? := by
  induction xs generalizing i with
  | nil => simp
  | cons x xs ih =>
    rw [List.flatMap_cons]
    cases i with
    | zero =>
      rw [Nat.mul_zero, Nat.zero_add, List.getElem?_append_left (by rw [h]; exact hr)]
      rfl
    | succ i =>
      rw [show n * (i + 1) + r = (f x).length + (n * i + r) by rw [h]; ring, List.getElem?_append_right (Nat.le_add_right ..),
        Nat.add_sub_cancel_left, ih]
      rfl

end

/-! ## Codes -/

theorem cavState_ofCode_iff (n : Nat) (st : CavState) : CavState.ofCode n = some st ↔ n = st.code := by
  constructor
  · intro h
    unfold CavState.ofCode at h
    split at h <;> cases h <;> rfl
  · rintro rfl
    cases st <;> rfl

theorem CavState.code_injective {a b : CavState} (h : a.code = b.code) : a = b :=
  Option.some.inj (((cavState_ofCode_iff _ _).mpr rfl).symm.trans ((cavState_ofCode_iff _ _).mpr h))

theorem CavState.exists_code {n : Nat} (h : n ≤ 5) : ∃ st : CavState, n = st.code := by
  match n, h with
  | 0, _ => exact ⟨.learning, rfl⟩
  | 1, _ => exact ⟨.sound, rfl⟩
  | 2, _ => exact ⟨.watch, rfl⟩
  | 3, _ => exact ⟨.suspect, rfl⟩
  | 4, _ => exact ⟨.cracked, rfl⟩
  | 5, _ => exact ⟨.excluded, rfl⟩

theorem slotOfCode_iff (n : Nat) (b : Option (Fin 4)) : slotOfCode n = some b ↔ n = slotCode b := by
  constructor
  · intro h
    unfold slotOfCode at h
    split at h <;> cases h <;> rfl
  · rintro rfl
    match b with
    | none => rfl
    | some k => fin_cases k <;> rfl

theorem slotFieldOk_iff_code (p : CavityPlan) (n : Nat) :
    slotFieldOk p n = true ↔ n = 7 ∨ ∃ k : Fin 4, n = k.val ∧ p.has k = true := by
  rw [slotFieldOk_iff]
  constructor
  · rintro ⟨b, hb, hok⟩
    have hn := (slotOfCode_iff n b).mp hb
    cases b with
    | none => exact .inl hn
    | some k => exact .inr ⟨k, hn, hok k rfl⟩
  · rintro (rfl | ⟨k, rfl, hk⟩)
    · exact ⟨none, rfl, nofun⟩
    · exact ⟨some k, (slotOfCode_iff _ _).mpr rfl, fun j hj => by cases hj; exact hk⟩

/-! ## What the checks ask -/

theorem mem_chans_iff (q : ProfilePlan) (n : Nat) :
    n ∈ q.chans ↔ n < 64 ∧ ∃ v ∈ q.cavities, ∃ k : Fin 4, v.has k = true ∧ v.chan k = n := by
  have hnames : ∀ v : CavityPlan, v.names n = true ↔ ∃ k : Fin 4, v.has k = true ∧ v.chan k = n := by
    intro v
    simp only [CavityPlan.names, List.any_eq_true, Bool.and_eq_true, beq_iff_eq]
    exact exists_congr fun k => and_iff_right (by fin_cases k <;> simp [slots4])
  simp only [ProfilePlan.chans, List.mem_filter, List.mem_range, List.any_eq_true, hnames]

theorem chans_length_le (q : ProfilePlan) : q.chans.length ≤ 64 :=
  (List.length_filter_le ..).trans_eq List.length_range

theorem eq_channelMask_iff (w : Word) (chans : List Nat) (half : Nat) :
    w = channelMask chans half ↔ ∀ k, k < 32 → (w.getLsbD k = true ↔ 32 * half + k ∈ chans) := by
  constructor
  · rintro rfl k hk
    exact channelMask_getLsbD_iff chans half hk
  · intro h
    refine BitVec.eq_of_getLsbD_eq fun k hk => ?_
    rw [Bool.eq_iff_iff, h k hk, channelMask_getLsbD_iff chans half hk]

theorem imageHeaderOk_iff (q : ProfilePlan) (p : Nat) (ws : List Word) : imageHeaderOk q p ws = true ↔
    planWord ws 0 = Config.imageIdentifier ∧ bitsAt (planWord ws 1) 0 8 = p ∧
      bitsAt (planWord ws 1) 8 8 = q.cavities.length ∧ bitsAt (planWord ws 1) 16 8 = q.chans.length ∧
      bitsAt (planWord ws 2) 0 16 = q.layoutSerial ∧ bitsAt (planWord ws 3) 0 16 = q.imageWords ∧
      planWord ws 4 = channelMask q.chans 0 ∧ planWord ws 5 = channelMask q.chans 1 := by
  simp only [imageHeaderOk, Bool.and_eq_true, beq_iff_eq, decide_eq_true_eq, and_assoc]

theorem eq_imageIdentifier_iff (w : Word) : w = Config.imageIdentifier ↔ w.toNat = 0x474C4A43 :=
  ⟨fun h => h ▸ rfl, fun h => BitVec.eq_of_toNat_eq h⟩

theorem bitAt_eq_false_iff (w : Word) (i : Nat) : bitAt w i = false ↔ w.toNat / 2 ^ i % 2 = 0 := by
  rw [bitAt, bitsAt_eq, decide_eq_false_iff_not]
  omega

/-- The field check of one cavity, in the values of its fields (R107). -/
theorem cavityFieldsOk_iff_values (v : CavityPlan) (w1 w2 : Word) : cavityFieldsOk v w1 w2 = true ↔
    let state := bitsAt w1 0 3
    let suspected := state = CavState.suspect.code ∨ state = CavState.cracked.code
    state ≤ 5 ∧ (bitsAt w1 8 3 = 7 ∨ (suspected ∧ ∃ k : Fin 4, bitsAt w1 8 3 = k.val ∧ v.has k = true)) ∧
      (bitsAt w1 12 3 = 7 ∨ ∃ k : Fin 4, bitsAt w1 12 3 = k.val ∧ v.has k = true) ∧
      (bitsAt w2 0 16 = 0 ∨ (state ≠ CavState.learning.code ∧ state ≠ CavState.excluded.code)) ∧
      (bitsAt w1 4 3 = 0 ∨ suspected) ∧ (bitAt w1 3 = false ∨ state ≠ CavState.excluded.code) ∧ bitsAt w2 16 9 ≤ 256 := by
  have hcode : ∀ st st' : CavState, st.code = st'.code ↔ st = st' := fun st st' =>
    ⟨CavState.code_injective, fun h => congrArg CavState.code h⟩
  have hunscored : ∀ st : CavState, st.unscored = false ↔ st ≠ .learning ∧ st ≠ .excluded := fun st => by
    rw [← Bool.not_eq_true, unscored_iff, not_or]
  rw [cavityFieldsOk_iff]
  constructor
  · rintro ⟨st, h⟩
    have hst := (cavState_ofCode_iff _ _).mp h.state
    obtain ⟨-, hbound, hunbound, hrep, hscore, hconf, hseen, hlearn⟩ := h
    rw [slotFieldOk_iff_code] at hbound hrep
    rw [suspected_iff] at hunbound hconf
    rw [hunscored] at hscore
    simp only [hst, ne_eq, hcode]
    refine ⟨st.code_le, ?_, hrep, hscore, hconf, hseen, hlearn⟩
    rcases hunbound with h7 | hs
    · exact .inl h7
    · exact hbound.imp_right fun hk => ⟨hs, hk⟩
  · rintro ⟨hle, hbound, hrep, hscore, hconf, hseen, hlearn⟩
    obtain ⟨st, hst⟩ := CavState.exists_code hle
    simp only [hst, ne_eq, hcode] at hbound hscore hconf hseen
    refine ⟨st, (cavState_ofCode_iff _ _).mpr hst, ?_, ?_, ?_, ?_, ?_, hseen, hlearn⟩
    · rw [slotFieldOk_iff_code]
      exact hbound.imp_right And.right
    · rw [suspected_iff]
      exact hbound.imp_right And.left
    · rw [slotFieldOk_iff_code]
      exact hrep
    · rw [hunscored]
      exact hscore
    · rw [suspected_iff]
      exact hconf

/-- The slot words of an image, cavity by cavity. -/
theorem slotWords_iff (ws : List Word) (n : Nat) :
    (∀ j, j < 4 * n → slotFieldsOk (planWord ws (8 + 2 * n + j)) = true) ↔
      ∀ i, i < n → ∀ k, k < 4 → slotFieldsOk (planWord ws (8 + 2 * n + 4 * i + k)) = true := by
  constructor
  · intro h i hi k hk
    have := h (4 * i + k) (by omega)
    rwa [← Nat.add_assoc] at this
  · intro h j hj
    have := h (j / 4) (by omega) (j % 4) (by omega)
    rwa [Nat.add_assoc, Nat.div_add_mod] at this

/-- Settles O49: the header words against the request and the plan, and the fields against the table of R107. -/
theorem imageChecks : Obligations.ImageChecks := by
  refine ⟨fun q p ws => ?_, mem_chans_iff, fun q ws => ?_⟩
  · intro f
    have hmask : (∀ k, k < 32 → ((ws.getD 4 0).getLsbD k = true ↔ k ∈ q.chans) ∧
        ((ws.getD 5 0).getLsbD k = true ↔ 32 + k ∈ q.chans)) ↔
        planWord ws 4 = channelMask q.chans 0 ∧ planWord ws 5 = channelMask q.chans 1 := by
      rw [eq_channelMask_iff, eq_channelMask_iff, ← forall_and]
      simp only [Nat.mul_zero, Nat.zero_add, Nat.mul_one, ← imp_and, planWord]
    rw [hmask, imageHeaderOk_iff, eq_imageIdentifier_iff]
    simp only [bitsAt_eq, pow_zero, Nat.div_one]
    exact Iff.rfl
  · intro f
    rw [imageFieldsOk_iff, slotWords_iff]
    constructor
    · rintro ⟨hc, hs⟩ i v hv
      have hi : i < q.cavities.length := (List.getElem?_eq_some_iff.mp hv).1
      obtain ⟨h1, h2, h3, h4, h5, h6, h7⟩ := (cavityFieldsOk_iff_values v _ _).mp (hc i v hv)
      rw [bitAt_eq_false_iff] at h6
      simp only [bitsAt_eq, pow_zero, Nat.div_one] at h1 h2 h3 h4 h5 h6 h7
      refine ⟨h1, h2, h3, h4, h5, h6, h7, fun k hk => ?_⟩
      have := (slotFieldsOk_iff _).mp (hs i hi k hk)
      simp only [bitsAt_eq, pow_zero, Nat.div_one] at this
      exact this
    · intro h
      refine ⟨fun i v hv => (cavityFieldsOk_iff_values v _ _).mpr ?_, fun i hi k hk => (slotFieldsOk_iff _).mpr ?_⟩
      · obtain ⟨h1, h2, h3, h4, h5, h6, h7, -⟩ := h i v hv
        rw [bitAt_eq_false_iff]
        simp only [bitsAt_eq, pow_zero, Nat.div_one]
        exact ⟨h1, h2, h3, h4, h5, h6, h7⟩
      · obtain ⟨-, -, -, -, -, -, -, hs⟩ := h i _ (List.getElem?_eq_getElem hi)
        simp only [bitsAt_eq, pow_zero, Nat.div_one]
        exact hs k hk

/-! ## The words of an image -/

section
variable (s : State) (pl : Plan) (q : ProfilePlan) (p : Nat) (kind : SnapshotKind) (c : Context)

theorem imageHeader_length : (imageHeader s pl q p kind).length = 8 := rfl

theorem cavityImages_length : (c.cavities.flatMap cavityImage).length = 2 * c.cavities.length :=
  flatMap_length_of_const (f := cavityImage) (fun _ => rfl) _

theorem slotImages_length : (c.cavities.flatMap slotImages).length = 4 * c.cavities.length :=
  flatMap_length_of_const (f := slotImages) (fun _ => rfl) _

theorem imageOf_length : (imageOf s pl q p kind c).length = 8 + 6 * c.cavities.length + c.channels.length := by
  simp only [imageOf, List.length_append, imageHeader_length, cavityImages_length, slotImages_length, List.length_map]
  omega

theorem imageOf_header {i : Nat} (h : i < 8) :
    planWord (imageOf s pl q p kind c) i = (imageHeader s pl q p kind).getD i 0 := by
  simp only [planWord, imageOf, List.append_assoc]
  exact List.getD_append _ _ _ _ h

variable {c}

theorem imageOf_cavity {i r : Nat} {v : CavityCtx} (hv : c.cavities[i]? = some v) (hr : r < 2) :
    planWord (imageOf s pl q p kind c) (8 + 2 * i + r) = (cavityImage v).getD r 0 := by
  have hi : i < c.cavities.length := (List.getElem?_eq_some_iff.mp hv).1
  rw [planWord, imageOf, List.append_assoc, List.append_assoc, List.getD_append_right _ _ _ _ (by
    rw [imageHeader_length]; omega), imageHeader_length, show 8 + 2 * i + r - 8 = 2 * i + r by omega,
    List.getD_append _ _ _ _ (by rw [cavityImages_length]; omega), List.getD_eq_getElem?_getD,
    flatMap_getElem?_of_const (f := cavityImage) (fun _ => rfl) _ _ hr, hv, Option.bind_some, List.getD_eq_getElem?_getD]

theorem imageOf_slot {i k : Nat} {v : CavityCtx} (hv : c.cavities[i]? = some v) (hk : k < 4) :
    planWord (imageOf s pl q p kind c) (8 + 2 * c.cavities.length + 4 * i + k) = (slotImages v).getD k 0 := by
  have hi : i < c.cavities.length := (List.getElem?_eq_some_iff.mp hv).1
  have hpre : (imageHeader s pl q p kind ++ c.cavities.flatMap cavityImage).length = 8 + 2 * c.cavities.length := by
    rw [List.length_append, imageHeader_length, cavityImages_length]
  rw [planWord, imageOf, List.append_assoc, List.getD_append_right _ _ _ _ (by rw [hpre]; omega), hpre,
    show 8 + 2 * c.cavities.length + 4 * i + k - (8 + 2 * c.cavities.length) = 4 * i + k by omega,
    List.getD_append _ _ _ _ (by rw [slotImages_length]; omega), List.getD_eq_getElem?_getD,
    flatMap_getElem?_of_const (f := slotImages) (fun _ => rfl) _ _ hk, hv, Option.bind_some, List.getD_eq_getElem?_getD]

theorem imageOf_channel {j : Nat} {x : ChannelCtx} (hx : c.channels[j]? = some x) :
    planWord (imageOf s pl q p kind c) (8 + 6 * c.cavities.length + j) = channelImage x := by
  have hpre : (imageHeader s pl q p kind ++ c.cavities.flatMap cavityImage ++ c.cavities.flatMap slotImages).length =
      8 + 6 * c.cavities.length := by
    simp only [List.length_append, imageHeader_length, cavityImages_length, slotImages_length]
    omega
  rw [planWord, imageOf, List.getD_append_right _ _ _ _ (by rw [hpre]; omega), hpre, Nat.add_sub_cancel_left,
    List.getD_eq_getElem?_getD, List.getElem?_map, hx]
  rfl

end

/-! ## Reading an image back -/

section
variable {v : CavityCtx}

theorem cavityImage_toNat (hs : v.score ≤ 65535) (hc : v.confirm ≤ 7) (hl : v.learned ≤ 256) :
    ((cavityImage v).getD 0 0).toNat = v.state.code + v.blind.toNat * 2 ^ 3 + v.confirm * 2 ^ 4 + slotCode v.bound * 2 ^ 8 +
        slotCode v.reported * 2 ^ 12 + v.enables.toNat * 2 ^ 16 ∧
      ((cavityImage v).getD 1 0).toNat = v.score + v.learned * 2 ^ 16 := by
  have hcode := v.state.code_le
  have hbound := slotCode_le v.bound
  have hrep := slotCode_le v.reported
  have hblind := Bool.toNat_le v.blind
  have hen : v.enables.toNat < 16 := v.enables.isLt
  refine ⟨mkWord_toNat ?_ (by omega), pairWord_toNat (n := 9) (by omega) (by omega) (by decide)⟩
  rw [fld_of_lt (by omega), fld_of_lt (by omega), fld_of_lt (by omega), fld_of_lt (by omega), fld_of_lt (by omega)]
  repeat rw [List.sum_cons]
  rw [List.sum_nil]
  simp only [flag_eq]
  omega

theorem readSlot_slotImage {y : SlotCtx} (hb : y.b ≤ 524288) (hn : y.n ≤ 256) : readSlot (slotImage y) = y := by
  have hw : (slotImage y).toNat = y.b + y.n * 2 ^ 20 := by
    refine mkWord_toNat ?_ (by omega)
    rw [fld_of_lt (by omega), fld_of_lt (by omega)]
    repeat rw [List.sum_cons]
    rw [List.sum_nil]
    omega
  obtain ⟨b, n⟩ := y
  simp only [readSlot, bitsAt_eq, hw, SlotCtx.mk.injEq, pow_zero, Nat.div_one]
  dsimp only at hb hn
  omega

/-- The fields of a cavity's two image words are the cavity's items. -/
theorem cavityImage_fields (hs : v.score ≤ 65535) (hc : v.confirm ≤ 7) (hl : v.learned ≤ 256) :
    let w1 := (cavityImage v).getD 0 0
    let w2 := (cavityImage v).getD 1 0
    bitsAt w1 0 3 = v.state.code ∧ bitAt w1 3 = v.blind ∧ bitsAt w1 4 3 = v.confirm ∧ bitsAt w1 8 3 = slotCode v.bound ∧
      bitsAt w1 12 3 = slotCode v.reported ∧ bitsAt w1 16 4 = v.enables.toNat ∧ bitsAt w2 0 16 = v.score ∧
      bitsAt w2 16 9 = v.learned := by
  intro w1 w2
  have h1 : w1.toNat = _ := (cavityImage_toNat hs hc hl).1
  have h2 : w2.toNat = _ := (cavityImage_toNat hs hc hl).2
  have hcode := v.state.code_le
  have hbound := slotCode_le v.bound
  have hrep := slotCode_le v.reported
  have hblind := Bool.toNat_le v.blind
  have hen : v.enables.toNat < 16 := v.enables.isLt
  have hbit : bitAt w1 3 = v.blind := by
    rw [bitAt, bitsAt_eq, Bool.eq_iff_iff, decide_eq_true_iff, ← Bool.toNat_eq_one]
    omega
  simp only [bitsAt_eq, pow_zero, Nat.div_one]
  refine ⟨by omega, hbit, by omega, by omega, by omega, by omega, by omega, by omega⟩

end

section
variable {s : State} {pl : Plan} {q : ProfilePlan} {p : Nat} {kind : SnapshotKind} {c : Context}

theorem slotImages_getD (v : CavityCtx) {k : Nat} (hk : k < 4) :
    (slotImages v).getD k 0 = slotImage (v.slots.getD k { b := 0, n := 0 }) := by
  match k, hk with
  | 0, _ | 1, _ | 2, _ | 3, _ => rfl

theorem readCavityCtx_imageOf {i : Nat} {v : CavityCtx} {cp : CavityPlan} (hv : c.cavities[i]? = some v) (h : v.Legal cp) :
    readCavityCtx (imageOf s pl q p kind c) c.cavities.length i = v := by
  obtain ⟨hst, hblind, hconf, hbound, hrep, hen, hscore, hlearn⟩ := cavityImage_fields h.score h.count h.learned
  have hslots : (List.range 4).map (fun k => readSlot (slotWordAt (imageOf s pl q p kind c) c.cavities.length i k)) = v.slots := by
    apply List.ext_getElem?
    intro k
    rw [List.getElem?_map]
    by_cases hk : k < 4
    · have hkv : k < v.slots.length := h.slots.symm ▸ hk
      obtain ⟨hb, hn⟩ := h.baselines _ (List.getElem_mem hkv)
      rw [List.getElem?_range hk, Option.map_some, slotWordAt, imageOf_slot s pl q p kind hv hk, slotImages_getD v hk,
        List.getD_eq_getElem _ _ hkv, readSlot_slotImage hb hn, List.getElem?_eq_getElem hkv]
    · rw [List.getElem?_eq_none (by simpa using hk), List.getElem?_eq_none (by rw [h.slots]; omega)]
      rfl
  rw [readCavityCtx, hslots, show 9 + 2 * i = 8 + 2 * i + 1 by omega, imageOf_cavity s pl q p kind hv (by decide : 1 < 2)]
  have h0 := imageOf_cavity s pl q p kind hv (by decide : 0 < 2)
  rw [Nat.add_zero] at h0
  rw [h0, hst, hblind, hconf, hbound, hrep, hen, hscore, hlearn, (cavState_ofCode_iff _ _).mpr rfl, (slotOfCode_iff _ _).mpr rfl,
    (slotOfCode_iff _ _).mpr rfl, BitVec.ofNat_toNat, BitVec.setWidth_eq]
  rfl

theorem channelImage_read {x : ChannelCtx} (h : -32768 ≤ x.offset ∧ x.offset ≤ 32767) :
    signed16 (bitsAt (channelImage x) 0 16) = x.offset ∧ bitAt (channelImage x) 16 = x.responsive := by
  obtain ⟨hlo, hhi⟩ := h
  have hr := Bool.toNat_le x.responsive
  have hu : unsigned16 x.offset < 65536 := by
    unfold unsigned16
    omega
  have hw : (channelImage x).toNat = unsigned16 x.offset + x.responsive.toNat * 2 ^ 16 := by
    refine mkWord_toNat ?_ (by omega)
    rw [fld_of_lt (by omega)]
    repeat rw [List.sum_cons]
    rw [List.sum_nil]
    simp only [flag_eq]
    omega
  have hlow : bitsAt (channelImage x) 0 16 = unsigned16 x.offset := by
    rw [bitsAt_eq, pow_zero, Nat.div_one]
    omega
  refine ⟨?_, ?_⟩
  · rw [hlow, signed16, unsigned16]
    split <;> omega
  · rw [bitAt, bitsAt_eq, Bool.eq_iff_iff, decide_eq_true_iff, ← Bool.toNat_eq_one]
    omega

/-- No item of a legal context is lost or changed by a save and a restore. -/
theorem readContext_imageOf (h : Context.Legal q c) : readContext q (imageOf s pl q p kind c) = c := by
  have hcav : (List.range q.cavities.length).map (readCavityCtx (imageOf s pl q p kind c) q.cavities.length) = c.cavities := by
    rw [← h.count]
    apply List.ext_getElem?
    intro i
    rw [List.getElem?_map]
    by_cases hi : i < c.cavities.length
    · have hv := List.getElem?_eq_getElem hi
      have hiq : i < q.cavities.length := h.count ▸ hi
      have hlegal := h.cavities (q.cavities[i], c.cavities[i]) (List.mem_of_getElem? (i := i) (by
        rw [List.getElem?_zip_eq_some]
        exact ⟨List.getElem?_eq_getElem hiq, hv⟩))
      rw [List.getElem?_range hi, Option.map_some, readCavityCtx_imageOf hv hlegal, hv]
    · rw [List.getElem?_eq_none (by simpa using hi), List.getElem?_eq_none (Nat.le_of_not_lt hi)]
      rfl
  have hchan : (q.chans.zipIdx.map fun x =>
      ({ number := x.1
         offset := signed16 (bitsAt (planWord (imageOf s pl q p kind c) (8 + 6 * q.cavities.length + x.2)) 0 16)
         responsive := bitAt (planWord (imageOf s pl q p kind c) (8 + 6 * q.cavities.length + x.2)) 16 } : ChannelCtx)) =
      c.channels := by
    rw [← h.count, ← h.channels]
    apply List.ext_getElem?
    intro j
    rw [List.getElem?_map, List.getElem?_zipIdx, List.getElem?_map]
    cases hx : c.channels[j]? with
    | none => rfl
    | some x =>
      obtain ⟨hoff, hresp⟩ := channelImage_read (h.offsets x (List.mem_of_getElem? hx))
      simp only [Option.map_some, Nat.zero_add, imageOf_channel s pl q p kind hx, hoff, hresp]
  rw [readContext, hcav, hchan]

/-- The header words of an image of a profile that fits its fields (R100, R102). -/
theorem imageHeader_toNat (hp : p ≤ 3) (hc : q.cavities.length ≤ 48) (hl : q.layoutSerial < 65536) :
    let w := fun i => (imageHeader s pl q p kind).getD i 0
    (w 1).toNat = p + q.cavities.length * 2 ^ 8 + q.chans.length * 2 ^ 16 ∧
      (w 2).toNat = q.layoutSerial + pl.serial % 65536 * 2 ^ 16 ∧ (w 3).toNat = q.imageWords := by
  have hn := chans_length_le q
  have hwords : q.imageWords = 8 + 6 * q.cavities.length + q.chans.length := rfl
  have hserial : fld pl.serial 16 16 = pl.serial % 65536 * 2 ^ 16 := rfl
  refine ⟨mkWord_toNat ?_ (by omega), mkWord_toNat ?_ (by omega), mkWord_toNat ?_ (by omega)⟩
  · rw [fld_of_lt (by omega), fld_of_lt (by omega), fld_of_lt (by omega)]
    repeat rw [List.sum_cons]
    rw [List.sum_nil]
    omega
  · rw [hserial, fld_of_lt (by omega)]
    repeat rw [List.sum_cons]
    rw [List.sum_nil]
    omega
  · rw [fld_of_lt (by omega), List.sum_singleton, pow_zero, Nat.mul_one]

theorem imageHeaderOk_imageOf (hp : p ≤ 3) (hc : q.cavities.length ≤ 48) (hl : q.layoutSerial < 65536) :
    imageHeaderOk q p (imageOf s pl q p kind c) = true := by
  obtain ⟨h1, h2, h3⟩ := imageHeader_toNat (s := s) (pl := pl) (kind := kind) hp hc hl
  have hn := chans_length_le q
  have hcount : (p + q.cavities.length * 2 ^ 8 + q.chans.length * 2 ^ 16) / 2 ^ 16 % 2 ^ 8 = q.chans.length := by omega
  have hwords : q.imageWords = 8 + 6 * q.cavities.length + q.chans.length := rfl
  have hword : ∀ i, i < 8 → planWord (imageOf s pl q p kind c) i = (imageHeader s pl q p kind).getD i 0 :=
    fun i hi => imageOf_header s pl q p kind c hi
  rw [imageHeaderOk_iff, hword 0 (by decide), hword 1 (by decide), hword 2 (by decide), hword 3 (by decide),
    hword 4 (by decide), hword 5 (by decide)]
  simp only [bitsAt_eq, pow_zero, Nat.div_one, h1, h2, h3]
  exact ⟨rfl, by omega, by omega, hcount, by omega, by omega, rfl, rfl⟩

/-- A legal cavity passes the field check with the words of its image. -/
theorem cavityFields_of_legal {v : CavityCtx} {cp : CavityPlan} (h : v.Legal cp) :
    CavityFields cp ((cavityImage v).getD 0 0) ((cavityImage v).getD 1 0) v.state := by
  obtain ⟨hst, hblind, hconf, hbound, hrep, -, hscore, hlearn⟩ := cavityImage_fields h.score h.count h.learned
  refine ⟨?_, ?_, ?_, ?_, ?_, ?_, ?_, ?_⟩
  · rw [hst, cavState_ofCode_iff]
  · rw [hbound, slotFieldOk_iff]
    exact ⟨v.bound, (slotOfCode_iff _ _).mpr rfl, fun k hk => (h.bound k hk).1⟩
  · rw [hbound, suspected_iff]
    cases hb : v.bound with
    | none => exact .inl rfl
    | some k => exact .inr (h.bound k hb).2
  · rw [hrep, slotFieldOk_iff]
    exact ⟨v.reported, (slotOfCode_iff _ _).mpr rfl, h.reported⟩
  · rw [hscore, ← Bool.not_eq_true, unscored_iff]
    by_cases hu : v.state = .learning ∨ v.state = .excluded
    · exact .inl (h.unscored hu)
    · exact .inr hu
  · rw [hconf, suspected_iff]
    by_cases hz : v.confirm = 0
    · exact .inl hz
    · exact .inr (h.confirm hz)
  · rw [hblind]
    by_cases hx : v.state = .excluded
    · exact .inl (h.seen hx)
    · exact .inr hx
  · rw [hlearn]
    exact h.learned

theorem slotFieldsOk_slotImage {y : SlotCtx} (hb : y.b ≤ 524288) (hn : y.n ≤ 256) : slotFieldsOk (slotImage y) = true := by
  have hread := readSlot_slotImage hb hn
  rw [slotFieldsOk_iff]
  exact ⟨(congrArg SlotCtx.b hread).trans_le hb, (congrArg SlotCtx.n hread).trans_le hn⟩

theorem legal_cavity {i : Nat} {v : CavityCtx} {cp : CavityPlan} (h : Context.Legal q c) (hv : c.cavities[i]? = some v)
    (hp : q.cavities[i]? = some cp) : v.Legal cp :=
  h.cavities (cp, v) (List.mem_of_getElem? (List.getElem?_zip_eq_some.mpr ⟨hp, hv⟩))

theorem imageFieldsOk_imageOf (h : Context.Legal q c) : imageFieldsOk q (imageOf s pl q p kind c) = true := by
  rw [imageFieldsOk_iff, slotWords_iff]
  refine ⟨fun i cp hp => ?_, fun i hi k hk => ?_⟩
  · have hi : i < c.cavities.length := h.count ▸ (List.getElem?_eq_some_iff.mp hp).1
    have hv := List.getElem?_eq_getElem hi
    have h0 := imageOf_cavity s pl q p kind hv (by decide : 0 < 2)
    rw [Nat.add_zero] at h0
    rw [show 9 + 2 * i = 8 + 2 * i + 1 by omega, h0, imageOf_cavity s pl q p kind hv (by decide : 1 < 2), cavityFieldsOk_iff]
    exact ⟨_, cavityFields_of_legal (legal_cavity h hv hp)⟩
  · have hiv : i < c.cavities.length := h.count ▸ hi
    have hv := List.getElem?_eq_getElem hiv
    have hlegal := legal_cavity h hv (List.getElem?_eq_getElem hi)
    have hkv : k < c.cavities[i].slots.length := hlegal.slots.symm ▸ hk
    obtain ⟨hb, hn⟩ := hlegal.baselines _ (List.getElem_mem hkv)
    rw [← h.count, imageOf_slot s pl q p kind hv hk, slotImages_getD _ hk, List.getD_eq_getElem _ _ hkv]
    exact slotFieldsOk_slotImage hb hn

/-- Settles O48: the words of an image carry every item, and pass both checks. -/
theorem imageRoundTrip : Obligations.ImageRoundTrip := by
  intro s pl q p kind c hp hc hl hlegal ws
  refine ⟨?_, imageHeaderOk_imageOf hp hc hl, imageFieldsOk_imageOf hlegal, readContext_imageOf hlegal,
    fun hserial hcycle hmail hid => ?_⟩
  · have hchan : c.channels.length = q.chans.length := by rw [← hlegal.channels, List.length_map]
    rw [imageOf_length, hlegal.count, hchan]
  · intro f
    obtain ⟨-, h2, -⟩ := imageHeader_toNat (s := s) (pl := pl) (kind := kind) hp hc hl
    have hf : ∀ i, i < 8 → f i = ((imageHeader s pl q p kind).getD i 0).toNat := fun i hi =>
      congrArg BitVec.toNat (imageOf_header s pl q p kind c hi)
    have hkind : kind.code ≤ 3 := by cases kind <;> decide
    rw [hf 2 (by decide), hf 6 (by decide), hf 7 (by decide), h2, Nat.mod_eq_of_lt hserial]
    refine ⟨rfl, ?_, mkWord_toNat ?_ (by omega)⟩
    · refine (pairWord_toNat (x := s.tracker.openCycle) (y := kind.code) (n := 2) hcycle (by omega) (by decide)).trans ?_
      cases kind <;> rfl
    · rw [fld_of_lt (by omega), fld_of_lt (by omega)]
      repeat rw [List.sum_cons]
      rw [List.sum_nil]
      omega

end

end Sys2Proof.Machine
end

section
/-! PROOFS. The owners' work on a request that the mailbox has handed over (chapters 3 to 6, 9 and 10). -/

namespace Sys2Proof.Machine

/-! ## A request that has been handed over -/

section
variable {s : State} {f : Fn} {args : List Nat}

theorem handedFn_of_handed (h : s.handed f args) : handedFn s = some f := by
  obtain ⟨-, hw⟩ := h
  rw [handedFn, hw]
  rfl

/-- The owner's step carries the work of its request out, and what that has to place is then placed. -/
theorem ownerStep_endsIn {t : State} (h : s.handed f args) (ht : doWork .atOnce f s = t) : EndsIn (ownerStep f s) t := by
  have hstep : ownerStep f s = .next (settle t) := by
    rw [ownerStep, if_neg (by simp [h.1]), if_pos (handedFn_of_handed h), ht]
  rw [hstep]
  exact endsIn_settle t

end

/-! ## Cavity requests (R71, R93 to R96) -/

section
variable {s : State} {p c : Nat} {v : CavityCtx}

theorem cavity_of_hasCavity (h : s.hasCavity p c v) : s.cavity p c = some v := by
  obtain ⟨x, hx, hv⟩ := h
  rw [State.cavity, hx]
  exact hv

theorem setCavity_eq_withCavity (u : CavityCtx) (h : s.hasCavity p c v) : setCavity p c u s = s.withCavity p c u := by
  obtain ⟨x, hx, -⟩ := h
  unfold setCavity State.withCavity
  rw [hx, List.modify_eq_set_getElem?]
  simp [hx]

/-- A cavity request that makes of its cavity what `Fn.cavityAfter` says is `State.cavityDone`. -/
theorem changeCavity_eq_cavityDone {f : Fn} {args : List Nat} {ph : WorkPhase} {g : CavityCtx → CavityCtx}
    (hw : s.mail.work = some { fn := f, args := args, phase := ph }) (h0 : args.getD 0 0 = p) (h1 : args.getD 1 0 = c) (hv : s.hasCavity p c v)
    (hg : g v = f.cavityAfter (args.getD 2 0) v) : changeCavity g s = s.cavityDone f args p c v := by
  unfold changeCavity State.cavityDone
  simp only [arg_of_work hw, h0, h1, cavity_of_hasCavity hv, hg, setCavity_eq_withCavity _ hv]
  split
  · exact complete_of_work .ok (s := s.withCavity p c (f.cavityAfter (args.getD 2 0) v)) hw
  · rw [raiseNotice_eq, raiseNotice_eq]
    exact complete_of_work .ok
      (s := (s.withCavity p c (f.cavityAfter (args.getD 2 0) v)).setReport _) hw

theorem releaseCavity_eq_cavityAfter (x : Nat) (v : CavityCtx) :
    releaseCavity x v = Fn.releaseCavity.cavityAfter x v := by
  unfold releaseCavity Fn.cavityAfter
  split
  · simp only [List.map_const']
  · rfl

end

/-- Settles O45: a cavity request changes its cavity, notes a changed state, and completes. -/
theorem shortRequests : Obligations.ShortRequests := by
  refine ⟨fun s p c x v hv => ⟨fun h _ => ?_, fun h => ?_, fun h => ?_, fun h => ?_⟩, fun s h => ?_, fun s x h _ => ?_⟩
  · refine ownerStep_endsIn h (changeCavity_eq_cavityDone h.2 rfl rfl hv ?_)
    rw [arg_of_work h.2]
    exact releaseCavity_eq_cavityAfter x v
  · exact ownerStep_endsIn h (changeCavity_eq_cavityDone h.2 rfl rfl hv rfl)
  · exact ownerStep_endsIn h (changeCavity_eq_cavityDone h.2 rfl rfl hv rfl)
  · refine ownerStep_endsIn h (changeCavity_eq_cavityDone h.2 rfl rfl hv ?_)
    rw [arg_of_work h.2]
    rfl
  · exact ownerStep_endsIn h (complete_of_work .ok (s := s.setOut { s.out with stopLatch := false }) h.2)
  · refine ownerStep_endsIn h (.trans ?_ (complete_of_work .ok (s := s.setPath { s.path with overlay := x == 1 }) h.2))
    rw [doWork, doOverlay, arg_of_work h.2]
    rfl

/-! ## A reload (R151) -/

theorem beginLoad_eq (s : State) : beginLoad s = loadBegun s := rfl

theorem startReload_of_work {s : State} {f : Fn} {args : List Nat} {ph : WorkPhase}
    (h : s.mail.work = some { fn := f, args := args, phase := ph }) :
    startReload s = loadBegun (s.setMail { s.mail with work := some { fn := f, args := args, phase := .loading } }) := by
  rw [startReload, setPhase_of_work _ h, beginLoad_eq]

/-- An abandon has no work to release while the request in flight has only been handed over. -/
theorem releaseAtAbandon_of_handed {s : State} {f : Fn} {args : List Nat}
    (h : s.mail.work = some { fn := f, args := args, phase := .handed }) : releaseAtAbandon s = s := by
  rw [releaseAtAbandon, h]

/-- Settles O47: the run state and the tracker state decide when a reload begins its load. -/
theorem loadBegins : Obligations.LoadBegins := by
  refine ⟨fun s hs => ?_, fun s n hr hrun hn hlim => ?_⟩
  · intro t
    have hw := hs.2
    refine ⟨fun hidle => ownerStep_endsIn hs ?_, fun hrun hopen => ownerStep_endsIn hs ?_,
      fun hrun hclose => ownerStep_endsIn hs ?_⟩
    · refine .trans ?_ (startReload_of_work hw)
      change reloadPlan s = startReload s
      unfold reloadPlan
      cases hrun : s.loader.run with
      | running =>
        rcases hidle hrun with ht | ht <;> rw [ht]
      | noPlan => rfl
      | loading => rfl
    · change reloadPlan s = _
      have hab : (s.abandoned 4).mail.work = some { fn := .reloadPlan, args := [], phase := .handed } := by
        rw [State.abandoned, raiseNotice_eq]
        exact hw
      have hreload : reloadPlan s = startReload (abandonWindow .planReload s) := by
        unfold reloadPlan
        rw [hrun, hopen]
      have hcode : AbandonReason.planReload.code = 4 := rfl
      rw [hreload, abandonWindow_eq_release, hcode, releaseAtAbandon_of_handed hab, startReload_of_work hab, State.abandoned,
        raiseNotice_eq, raiseNotice_eq]
      rfl
    · refine .trans ?_ (setPhase_of_work .waiting hw)
      change reloadPlan s = _
      unfold reloadPlan
      rw [hrun, hclose]
  · have hexec : exec .retryTimerExpiry s = .next (settle (loadBegun s)) := by
      have hreached : retryReached s = true := by
        rw [retryReached, hrun, hn]
        exact decide_eq_true hlim
      change execRetryTimerExpiry s = _
      rw [execRetryTimerExpiry, if_neg (by simp [hr]), if_pos hreached, beginLoad_eq]
    rw [hexec]
    exact endsIn_settle _

end Sys2Proof.Machine
end

section
/-! PROOFS. The checks a request is put to, and the areas that a save, a restore and a dump use (chapters 3, 4, 6 and 9). -/

namespace Sys2Proof.Machine

/-! ## Ranges (R52, R70, R93, R101, R104) -/

section
variable {pl : Plan} {base a n x y : Nat}

theorem profileArg_eq (h : pl.profiles.length ≤ 4) (x : Nat) : profileArg pl x = pl.profiles[x]? := by
  unfold profileArg
  split
  · rfl
  · rw [List.getElem?_eq_none (by omega)]

theorem cavityArgOk_iff (h : pl.profiles.length ≤ 4) :
    cavityArgOk pl x y = true ↔ ∃ q, pl.profiles[x]? = some q ∧ y < q.cavities.length := by
  unfold cavityArgOk
  rw [profileArg_eq h]
  cases pl.profiles[x]? <;> simp

theorem overlaps_eq_false_iff {b m : Nat} (hn : 0 < n) (hm : 0 < m) :
    overlaps a n b m = false ↔ a + n ≤ b ∨ b + m ≤ a := by
  simp only [overlaps, Bool.and_eq_false_iff, decide_eq_false_iff_not]
  omega

/-- An area that a dump or an image may use lies below the end of memory and apart from the anchor region and every
ring. -/
theorem postAreaOk_iff (hn : 0 < n) (hr : ∀ w ∈ pl.windows, 0 < w.ringBytes) :
    postAreaOk pl base a n = true ↔
      a % 4 = 0 ∧ a + n ≤ 2 ^ 24 ∧ (a + n ≤ base ∨ base + 0x2400 ≤ a) ∧
        ∀ w ∈ pl.windows, a + n ≤ w.base ∨ w.base + w.ringBytes ≤ a := by
  have harea : areaOk a n = true ↔ a % 4 = 0 ∧ a + n ≤ 2 ^ 24 := by
    rw [areaOk, Bool.and_eq_true, decide_eq_true_iff, decide_eq_true_iff]
    exact Iff.rfl
  have hanchor : overlaps a n base Config.anchorBytes = false ↔ a + n ≤ base ∨ base + 0x2400 ≤ a :=
    overlaps_eq_false_iff hn (by decide)
  have hrings : (pl.rings.any fun r => overlaps a n r.1 r.2) = false ↔
      ∀ w ∈ pl.windows, a + n ≤ w.base ∨ w.base + w.ringBytes ≤ a := by
    rw [Plan.rings, List.any_map, List.any_eq_false]
    refine forall₂_congr fun w hw => ?_
    rw [Bool.not_eq_true]
    exact overlaps_eq_false_iff hn (hr w hw)
  rw [postAreaOk, Bool.and_eq_true, Bool.and_eq_true, Bool.not_eq_true', Bool.not_eq_true', harea, hanchor, hrings, and_assoc,
    and_assoc]

theorem imageArgOk_iff (h : pl.profiles.length ≤ 4) (hr : ∀ w ∈ pl.windows, 0 < w.ringBytes) :
    imageArgOk pl base x a = true ↔ ∃ q, pl.profiles[x]? = some q ∧
      let n := 4 * (8 + 6 * q.cavities.length + q.chans.length)
      a % 4 = 0 ∧ a + n ≤ 2 ^ 24 ∧ (a + n ≤ base ∨ base + 0x2400 ≤ a) ∧
        ∀ w ∈ pl.windows, a + n ≤ w.base ∨ w.base + w.ringBytes ≤ a := by
  unfold imageArgOk
  rw [profileArg_eq h]
  cases pl.profiles[x]? with
  | none => simp
  | some q =>
    simp only [Option.some.injEq, exists_eq_left']
    exact postAreaOk_iff (by rw [ProfilePlan.imageWords]; omega) hr

end

/-! ## States and waiting (R15, R52, R94, R96) -/

theorem cavityExcluded_iff {s : State} {args : List Nat} :
    cavityExcluded s args = true ↔ ∃ v, s.hasCavity (args.getD 0 0) (args.getD 1 0) v ∧ v.state = .excluded := by
  unfold cavityExcluded State.cavity State.hasCavity
  cases s.table.contexts[args.getD 0 0]? with
  | none => simp
  | some x =>
    simp only [Option.some.injEq, exists_eq_left', Option.any_eq_true, beq_iff_eq]

/-- Settles O43: what each check asks, request by request. -/
theorem requestChecks : Obligations.RequestChecks := by
  refine ⟨fun s pl x y z hpl hlen => ?_, fun s args => ⟨?_, rfl, rfl, ?_, rfl, ?_⟩⟩
  · intro names apart excluded
    have hrun : s.loader.run = .running := by
      unfold State.runningPlan at hpl
      split at hpl
      · assumption
      · cases hpl
      · cases hpl
    refine ⟨?_, ?_, ?_, ?_, ?_, fun hr => ⟨?_, ?_⟩, ?_, ?_, ?_, ?_, ?_, ?_, ?_⟩
    · simp only [rangesOk, hpl, Bool.and_eq_true, decide_eq_true_iff]
      exact and_congr_left' (cavityArgOk_iff hlen)
    · simp only [rangesOk, hpl]
      exact cavityArgOk_iff hlen
    · simp only [rangesOk, hpl]
      exact cavityArgOk_iff hlen
    · simp only [rangesOk, hpl, Bool.and_eq_true, decide_eq_true_iff]
      exact and_congr_left' (cavityArgOk_iff hlen)
    · simp only [rangesOk, decide_eq_true_iff, List.getD_cons_zero]
      omega
    · simp only [rangesOk, hpl]
      exact postAreaOk_iff (by decide) hr
    · intro f hf
      rcases List.mem_pair.mp hf with rfl | rfl <;> simp only [rangesOk, hpl] <;> exact imageArgOk_iff hlen hr
    · rw [stateOk, Bool.not_eq_true', ← Bool.not_eq_true, cavityExcluded_iff]
      rfl
    · exact cavityExcluded_iff
    · rw [stateOk, Option.isSome_iff_ne_none]
    · intro f hf
      simp only [List.mem_cons, List.not_mem_nil, or_false] at hf
      rcases hf with rfl | rfl | rfl | rfl <;> simp [waitsForWindow]
    · simp [waitsForWindow, windowBusy]
    · simp [waitsForWindow, hrun]
    · intro f hf
      simp only [List.mem_cons, List.not_mem_nil, or_false] at hf
      rcases hf with rfl | rfl | rfl | rfl <;> rfl
  · intro f hf
    simp only [List.mem_cons, List.not_mem_nil, or_false] at hf
    rcases hf with rfl | rfl | rfl | rfl | rfl | rfl | rfl <;> rfl
  · intro x
    simp only [rangesOk, decide_eq_true_iff, List.getD_cons_zero]
    omega
  · intro hrun
    simp [waitsForWindow, hrun]

/-! ## The channel dump (R53, 11.7) -/

theorem pairWord_eq {x y : Nat} (hx : x < 65536) (hy : y < 65536) :
    mkWord [fld x 0 16, fld y 16 16] = BitVec.ofNat 32 (x + y * 2 ^ 16) := by
  refine mkWord_eq ?_
  rw [fld_of_lt (by omega), fld_of_lt (by omega)]
  repeat rw [List.sum_cons]
  rw [List.sum_nil]
  omega

theorem dumpWords_length (pl : Plan) (x : HeldEntry × Nat) : (dumpWords pl x.2 x.1).length = 4 := by
  unfold dumpWords
  split <;> rfl

theorem dumpWords_undefined {pl : Plan} {n : Nat} {x : HeldEntry} (h : pl.channel n = none ∨ x.outcome = none) :
    dumpWords pl n x = List.replicate 4 0 := by
  unfold dumpWords
  split
  next hc ho => rw [hc, ho] at h; simp at h
  · rfl
  · rfl

theorem dumpWords_defined {pl : Plan} {n v : Nat} {x : HeldEntry} {c : ChannelPlan} {o : Outcome}
    (hc : pl.channel n = some c) (ho : x.outcome = some o) (hv : v ≤ 3) (hw : pl.windowOf n = v)
    (h1 : x.n ≤ 65535) (h2 : x.rms ≤ 65535) (h3 : x.hits ≤ 65535) (h4 : x.qualified ≤ 255) (h5 : x.peak ≤ 65535)
    (h6 : x.clips ≤ 65535) :
    dumpWords pl n x =
      [BitVec.ofNat 32 (x.n + x.rms * 2 ^ 16),
       BitVec.ofNat 32 (x.hits + x.qualified * 2 ^ 16 + o.code * 2 ^ 24 + if x.long then 2 ^ 27 else 0),
       BitVec.ofNat 32 (x.peak + x.clips * 2 ^ 16), BitVec.ofNat 32 (c.kind.code + v * 4)] := by
  obtain ⟨-, hcode⟩ := Outcome.code_pos_le o
  have hkind : c.kind.code < 4 := by cases c.kind <;> decide
  unfold dumpWords
  simp only [hc, ho, hw]
  rw [pairWord_eq (by omega) (by omega), pairWord_eq (by omega) (by omega)]
  refine congrArg₂ _ rfl (congrArg₂ _ (mkWord_eq ?_) (congrArg₂ _ rfl (congrArg₂ _ (mkWord_eq ?_) rfl)))
  · rw [fld_of_lt (by omega), fld_of_lt (by omega), fld_of_lt (by omega), flag_eq_ite]
    repeat rw [List.sum_cons]
    rw [List.sum_nil]
    omega
  · rw [fld_of_lt (by omega), fld_of_lt (by omega)]
    repeat rw [List.sum_cons]
    rw [List.sum_nil]
    omega

section
variable {pl : Plan} {held : List HeldEntry} {a n k : Nat}

theorem dumpEntries_length (pl : Plan) (held : List HeldEntry) (a : Nat) :
    (dumpEntries pl held a).length = 4 * held.length := by
  rw [dumpEntries, postEntries_eq_mapIdx, List.length_mapIdx, flatMap_length_of_const (dumpWords_length pl),
    List.length_zipIdx]

/-- Entry `4 n + k` of a dump posts word `k` of channel `n`. -/
theorem dumpEntries_getElem? {x : HeldEntry} (h : held[n]? = some x) (hk : k < 4) :
    (dumpEntries pl held a)[4 * n + k]?
      = (dumpWords pl n x)[k]?.map fun w => .post (a + 16 * n + 4 * k) w 0 := by
  rw [dumpEntries, postEntries_eq_mapIdx, List.getElem?_mapIdx, flatMap_getElem?_of_const (dumpWords_length pl) _ _ hk,
    List.getElem?_zipIdx, h, show a + 4 * (4 * n + k) = a + 16 * n + 4 * k by omega]
  simp

end

theorem windowOf_eq {pl : Plan} {n v : Nat} {w : WindowPlan} (hv : pl.windows[v]? = some w) (hw : n ∈ w.chans)
    (hfirst : ∀ i u, i < v → pl.windows[i]? = some u → n ∉ u.chans) : pl.windowOf n = v := by
  obtain ⟨hlt, hget⟩ := List.getElem?_eq_some_iff.mp hv
  refine (List.findIdx_eq hlt).mpr ⟨by simpa [hget] using hw, fun j hj => ?_⟩
  simpa using hfirst j _ hj (List.getElem?_eq_getElem (hj.trans hlt))

/-! ## Saves, restores and dumps begin (R53, R102, R103, R105) -/

theorem beginRestore_of_handed {s : State} {pl : Plan} {q : ProfilePlan} {p a : Nat} (h : s.handed .restoreContext [p, a])
    (hpl : s.loader.plan = some pl) (hq : pl.profiles[p]? = some q) :
    beginRestore s = (s.setTable { s.table with
        buf := []
        items := (List.range (8 + 6 * q.cavities.length + q.chans.length)).map fun i =>
          .fetch (a + 4 * i) .contextTable }).setMail
      { s.mail with work := some { fn := .restoreContext, args := [p, a], phase := .reading } } := by
  unfold beginRestore
  rw [argProfile_of_work h.2 hpl hq, arg_of_work h.2]
  exact setPhase_of_work .reading (s := s.setTable _) h.2

theorem doDump_of_handed {s : State} {pl : Plan} {held : List HeldEntry} {a : Nat} (h : s.handed .dumpChannels [a])
    (hpl : s.loader.plan = some pl) (hheld : s.eval.held = some held) :
    doDump s = (s.setEval { s.eval with dump := dumpEntries pl held a }).setMail
      { s.mail with work := some { fn := .dumpChannels, args := [a], phase := .placing } } := by
  unfold doDump
  rw [hheld, hpl, arg_of_work h.2]
  exact setPhase_of_work .placing (s := s.setEval _) h.2

/-- Settles O46: the entries that a save, a restore and a dump have to place. -/
theorem areaRequests : Obligations.AreaRequests := by
  intro s pl hpl
  refine ⟨fun p a q c h hq hc => ownerStep_endsIn h (takeSnapshot_of_work .atOnce h.2 hpl hq hc),
    fun p a q h hq => ownerStep_endsIn h (beginRestore_of_handed h hpl hq),
    fun a held h hheld hlen => ⟨dumpEntries pl held a, ownerStep_endsIn h (doDump_of_handed h hpl hheld), ?_, ?_, ?_⟩⟩
  · rw [dumpEntries_length, hlen]
  · intro n x c o v w hx hc ho hv hw hn hfirst h1 h2 h3 h4 h5 h6
    have hwords := dumpWords_defined hc ho hv (windowOf_eq hw hn hfirst) h1 h2 h3 h4 h5 h6
    refine ⟨?_, ?_, ?_, ?_⟩
    · rw [← Nat.add_zero (4 * n), dumpEntries_getElem? hx (by decide), hwords]
      rfl
    · rw [dumpEntries_getElem? hx (by decide), hwords]
      rfl
    · rw [dumpEntries_getElem? hx (by decide), hwords]
      rfl
    · rw [dumpEntries_getElem? hx (by decide), hwords]
      rfl
  · intro n x k hx hk hnone
    rw [dumpEntries_getElem? hx hk, dumpWords_undefined hnone, List.getElem?_replicate, if_pos hk]
    rfl

end Sys2Proof.Machine
end

section
/-! PROOFS. The request mailbox: its status words, the collection of a request's words, and the checks (chapter 9, 11.4). -/

namespace Sys2Proof.Machine

/-! ## Status words (11.4) -/

theorem Result.code_le (r : Result) : r.code ≤ 9 := by cases r <;> decide

theorem bitsAt_zero (w : Word) (n : Nat) : bitsAt w 0 n = w.toNat % 2 ^ n := by
  rw [bitsAt_eq, pow_zero, Nat.div_one]

theorem statusWord_eq {state result fault : Nat} (disturbed : Bool) (serial : Nat) (fn : Word) (h1 : state < 16)
    (h2 : result < 16) (h3 : fault < 16) :
    statusWord state disturbed serial fn result fault = BitVec.ofNat 32
      (state + (if disturbed then 2 ^ 7 else 0) + serial % 256 * 2 ^ 8 + fn.toNat % 256 * 2 ^ 16 + result * 2 ^ 24
        + fault * 2 ^ 28) := by
  refine mkWord_eq ?_
  rw [fld_of_lt (v := state) (by omega), fld_of_lt (v := result) (by omega), fld_of_lt (v := fault) (by omega), flag_eq_ite,
    bitsAt_zero, fld, fld, Nat.mod_mod]
  repeat rw [List.sum_cons]
  rw [List.sum_nil]
  omega

theorem statusWord_taken (serial : Nat) (fn : Word) :
    statusWord 1 false (serial % 256) fn 0 0
      = BitVec.ofNat 32 (1 + serial % 256 * 2 ^ 8 + fn.toNat % 256 * 2 ^ 16) := by
  rw [statusWord_eq _ _ _ (by decide) (by decide) (by decide)]
  simp only [Bool.false_eq_true, if_false, Nat.zero_mul, Nat.add_zero, Nat.mod_mod]

theorem statusWord_malformed (serial : Nat) (fn : Word) :
    statusWord 2 false (serial % 256) fn Result.malformed.code 0
      = BitVec.ofNat 32 (2 + serial % 256 * 2 ^ 8 + fn.toNat % 256 * 2 ^ 16 + 7 * 2 ^ 24) := by
  rw [statusWord_eq _ _ _ (by decide) (by decide) (by decide)]
  simp only [Bool.false_eq_true, if_false, Nat.zero_mul, Nat.add_zero, Nat.mod_mod, Result.code]

theorem doneWord_eq_doneStatus (m : Mailbox) (r : Result) (f : PlanFault) : doneWord m r f = doneStatus m r f := by
  have hr := r.code_le
  have hf := f.code_le
  rw [doneWord, statusWord_eq _ _ _ (by decide) (by omega) (by split <;> omega), doneStatus]
  refine congrArg _ ?_
  split <;> simp

/-! ## Collection (R140) -/

section
variable {s : State} {i : Nat} {a : Addr} {d : Word} {l : Lanes}

/-- A mailbox word that is not held is offered to the mailbox. -/
theorem exec_mailWrite (hs : s.takes) (h1 : 1 ≤ i) (h2 : i ≤ 15) (ha : a.toNat = s.base + 4 * i) :
    exec (.mailboxWordWrite (oneWord a d l)) s
      = .next (examineMailWord i { data := d, lanes := l } (mergeAndForward (oneWord a d l) s)) := by
  have ha4 : a.toNat % 4 = 0 := by
    rw [ha, State.base, show Config.anchorStride = 0x400000 from rfl]
    omega
  have hrow : Instr.mailboxWordWrite (oneWord a d l) ∈ writeRows (oneWord a d l) := by simp [writeRows]
  rw [exec_oneWord ha4 hs hrow, ha]
  exact congrArg _ (snoopWord_mail (m := mergeAndForward (oneWord a d l) s) _ h1 h2)

end

theorem malformRequest_eq (s : State) :
    malformRequest s = s.setMail { s.mail with
      state := .idle, serial := (s.mail.serial + 1) % 256, args := [], disturbed := false
      items := s.mail.items ++ [.finished (BitVec.ofNat 32
        (2 + (s.mail.serial + 1) % 256 * 2 ^ 8 + s.mail.fn.toNat % 256 * 2 ^ 16 + 7 * 2 ^ 24))
        ((s.mail.serial + 1) % 256) .malformed] } := by
  rw [← statusWord_malformed]
  rfl

theorem collectWord_argument {d : Word} {s : State} (hd : d ≠ 0xFFFFFFFF) (he : s.mail.expected ≠ 15) :
    collectWord d s = s.setMail { s.mail with args := s.mail.args ++ [d], expected := s.mail.expected + 1 } :=
  (if_neg hd).trans (if_neg he)

theorem collectWord_full {d : Word} {s : State} (hd : d ≠ 0xFFFFFFFF) (he : s.mail.expected = 15) :
    collectWord d s = settle (malformRequest s) :=
  (if_neg hd).trans (if_pos he)

/-- Settles O41: what a word of a request does in each mailbox state. -/
theorem requestCollected : Obligations.RequestCollected := by
  intro s i a d l hs h1 h2 ha m started n status
  rw [exec_mailWrite hs h1 h2 ha]
  have hmail : m.mail = s.mail := rfl
  refine ⟨fun hidle hl hi => ?_, fun hidle hno => ?_, fun hcol hl hi => ?_, fun hcol hl hi hexp hlast hd => ?_,
    fun hcol hbad => ?_, fun htaken => ?_⟩
  · rw [examineMailWord, hmail, hidle]
    exact congrArg _ (if_pos ⟨hl, hi⟩)
  · rw [examineMailWord, hmail, hidle]
    exact congrArg _ (if_neg hno)
  · rw [examineMailWord, hmail, hcol]
    exact congrArg _ ((if_neg (not_not.mpr hl)).trans (if_pos hi))
  · rw [examineMailWord, hmail, hcol]
    refine congrArg _ ((if_neg (not_not.mpr hl)).trans ((if_neg hi).trans ((if_pos hexp).trans ?_)))
    refine (collectWord_argument (s := m) hd fun he => hlast (hexp.trans he)).trans ?_
    rw [hmail, ← hexp]
  · have hmal : examineMailWord i { data := d, lanes := l } m = settle (malformRequest m) := by
      rw [examineMailWord, hmail, hcol]
      dsimp only
      by_cases hl : l = 15
      · rw [if_neg (not_not.mpr hl)]
        rcases hbad with hl' | ⟨hi, hexp⟩ | ⟨hi, hexp, hd⟩
        · exact absurd hl hl'
        · rw [if_neg hi, if_neg hexp]
        · rw [if_neg (by omega), if_pos hexp]
          exact collectWord_full (s := m) hd (hexp.symm.trans hi)
      · rw [if_pos hl]
    rw [hmal, malformRequest_eq]
    exact endsIn_settle _
  · rw [examineMailWord, hmail, htaken]

/-! ## The checks of a request (R141) -/

section
variable {s : State} {fn : Word} {args : List Nat} {f : Fn}

theorem checkRequest_unknown (h : Fn.ofCode fn.toNat = none) : checkRequest s fn args = .error .unknownFunction := by
  rw [checkRequest, h]

theorem checkRequest_count (h : Fn.ofCode fn.toNat = some f) (ha : args.length ≠ f.arity) :
    checkRequest s fn args = .error .argumentCount := by
  rw [checkRequest, h]
  exact if_pos ha

theorem planless_iff (f : Fn) : f.planless = true ↔ f = .reloadPlan ∨ f = .setOverlay := by
  cases f <;> simp [Fn.planless]

theorem checkRequest_noPlan (h : Fn.ofCode fn.toNat = some f) (ha : args.length = f.arity) (hr : s.loader.run ≠ .running)
    (h1 : f ≠ .reloadPlan) (h2 : f ≠ .setOverlay) : checkRequest s fn args = .error .noPlan := by
  have hp : f.planless = false := by
    rw [← Bool.not_eq_true, planless_iff]
    exact not_or.mpr ⟨h1, h2⟩
  rw [checkRequest, h]
  exact (if_neg (not_not.mpr ha)).trans (if_pos (by simp [hr, hp]))

/-- A request with its arguments and with a plan, where it needs one, is judged by its ranges and its state. -/
theorem checkRequest_ranges (h : Fn.ofCode fn.toNat = some f) (ha : args.length = f.arity)
    (hr : s.loader.run = .running ∨ f = .reloadPlan ∨ f = .setOverlay) :
    checkRequest s fn args = if rangesOk s f args = false then .error .argumentRange
      else if stateOk s f args = false then .error .wrongState else .ok f := by
  rw [← planless_iff] at hr
  rw [checkRequest, h]
  refine (if_neg (not_not.mpr ha)).trans ((if_neg ?_).trans ?_)
  · rcases hr with hr | hr <;> simp [hr]
  · simp only [Bool.not_eq_true']

end

/-- Settles O42: the terminator takes the request, and the first check that fails answers it. -/
theorem requestTaken : Obligations.RequestTaken := by
  intro s i a hs h1 h2 ha hcol hexp m args n status taken refused o
  have hmail : m.mail = s.mail := rfl
  have ho : o = .next (settle (takeRequest m)) := by
    refine (exec_mailWrite hs (by omega) h2 ha).trans ?_
    change Host.Outcome.next (examineMailWord i _ m) = _
    rw [examineMailWord, hmail, hcol]
    dsimp only
    rw [if_neg (by decide), if_neg (by omega), if_pos (by rw [hexp])]
    exact congrArg _ (if_pos rfl)
  have hstatus : statusWord 1 false n s.mail.fn 0 0 = status := statusWord_taken _ _
  have hrefused : ∀ r, checkRequest m s.mail.fn args = .error r → EndsIn o (refused r) := by
    intro r hr
    have htake : takeRequest m = refused r := by
      unfold takeRequest
      simp only [hmail, show nextSerial m = n from rfl, show List.map BitVec.toNat s.mail.args = args from rfl, hr, hstatus]
      rfl
    rw [ho, htake]
    exact endsIn_settle _
  refine ⟨fun hf => hrefused _ (checkRequest_unknown hf), fun f hf => ⟨fun hlen => hrefused _ (checkRequest_count hf hlen),
    fun hlen hrun hr ho => hrefused _ (checkRequest_noPlan hf hlen hrun hr ho), fun hlen hrun => ?_⟩⟩
  have hcheck := checkRequest_ranges (s := m) hf hlen hrun
  refine ⟨fun hr => hrefused _ (hcheck.trans (if_pos hr)), fun hr hst => hrefused _ (hcheck.trans ?_), fun hr hst => ?_⟩
  · exact (if_neg (by rw [show rangesOk m f args = true from hr]; decide)).trans (if_pos hst)
  · have hok : checkRequest m s.mail.fn args = .ok f := hcheck.trans
      ((if_neg (by rw [show rangesOk m f args = true from hr]; decide)).trans
        (if_neg (by rw [show stateOk m f args = true from hst]; decide)))
    have htake : takeRequest m = m.setMail { taken with
        work := some { fn := f, args := args, phase := if waitsForWindow s f args then .waiting else .handed } } := by
      unfold takeRequest
      simp only [hmail, show nextSerial m = n from rfl, show List.map BitVec.toNat s.mail.args = args from rfl, hok, hstatus]
      rfl
    rw [ho, htake]
    exact endsIn_settle _

end Sys2Proof.Machine
end

section
/-! PROOFS. Waiting work after publish, and a restored image (chapters 1 and 6). -/

namespace Sys2Proof.Machine

/-! ## Work released after publish (R15) -/

section
variable {s : State} {f : Fn} {args : List Nat}

theorem releaseDue_iff (s : State) : releaseDue s = true ↔ s.tracker.state = .closing ∧ s.closing.stage = .published := by
  simp [releaseDue]

theorem releaseAtPublish_waiting (h : s.mail.work = some { fn := f, args := args, phase := .waiting }) (hf : f ≠ .reloadPlan) :
    releaseAtPublish s = settle (doWork .atPublish f s) := by
  unfold releaseAtPublish
  rw [h]
  cases f with
  | reloadPlan => exact absurd rfl hf
  | _ => rfl

theorem releaseAtPublish_checked (h : s.mail.work = some { fn := f, args := args, phase := .checked }) :
    releaseAtPublish s = settle (commitImage s) := by
  rw [releaseAtPublish, h]

theorem releaseAtPublish_reload (h : s.mail.work = some { fn := .reloadPlan, args := [], phase := .waiting }) :
    releaseAtPublish s = startReload s := by
  rw [releaseAtPublish, h]

/-- A waiting cavity request acts on its cavity. -/
theorem doWork_cavity {kind : SnapshotKind} {p i : Nat} {v : CavityCtx} {ph : WorkPhase}
    (hf : f ∈ [Fn.releaseCavity, .excludeCavity, .includeCavity, .setPathEnables]) (hargs : args.take 2 = [p, i])
    (hw : s.mail.work = some { fn := f, args := args, phase := ph }) (hv : s.hasCavity p i v) :
    doWork kind f s = s.cavityDone f args p i v := by
  obtain ⟨h0, h1⟩ : args.getD 0 0 = p ∧ args.getD 1 0 = i := by
    match args, hargs with
    | a :: b :: _, h => simpa using h
  simp only [List.mem_cons, List.not_mem_nil, or_false] at hf
  rcases hf with rfl | rfl | rfl | rfl
  · refine changeCavity_eq_cavityDone hw h0 h1 hv ?_
    rw [arg_of_work hw]
    exact releaseCavity_eq_cavityAfter _ v
  · exact changeCavity_eq_cavityDone hw h0 h1 hv rfl
  · exact changeCavity_eq_cavityDone hw h0 h1 hv rfl
  · refine changeCavity_eq_cavityDone hw h0 h1 hv ?_
    rw [arg_of_work hw]
    rfl

theorem cavityDone_tracker (p i : Nat) (v : CavityCtx) :
    (s.cavityDone f args p i v).tracker = s.tracker ∧ (s.cavityDone f args p i v).loader = s.loader := by
  unfold State.cavityDone
  simp only [raiseNotice_eq]
  split <;> exact ⟨rfl, rfl⟩

end

/-- The state that waiting work makes of `s`, before its entries are placed. -/
theorem releaseAtPublish_eq {s y : State} {pl : Plan} {p : Nat} {q : ProfilePlan} {c : Context}
    (hpl : s.loader.plan = some pl) (hactive : s.tracker.active = some p) (hq : pl.profiles[p]? = some q)
    (hc : s.table.contexts[p]? = some c)
    (h : (∃ f args i v, f ∈ [Fn.releaseCavity, .excludeCavity, .includeCavity, .setPathEnables] ∧ args.take 2 = [p, i] ∧
        s.mail.work = some { fn := f, args := args, phase := .waiting } ∧ s.hasCavity p i v ∧
        y = settle (s.cavityDone f args p i v)) ∨
      (∃ a, s.mail.work = some { fn := .saveContext, args := [p, a], phase := .waiting } ∧
        y = settle (s.snapshot pl q c .atPublish p a)) ∨
      (∃ a, s.mail.work = some { fn := .restoreContext, args := [p, a], phase := .checked } ∧
        y = settle (s.committed q p a))) :
    releaseAtPublish s = y ∧ ∃ x, y = settle x ∧ x.tracker = s.tracker ∧ x.loader = s.loader := by
  rcases h with ⟨f, args, i, v, hf, hargs, hw, hv, rfl⟩ | ⟨a, hw, rfl⟩ | ⟨a, hw, rfl⟩
  · have hne : f ≠ .reloadPlan := by
      rintro rfl
      simp at hf
    obtain ⟨ht, hl⟩ := cavityDone_tracker (s := s) (f := f) (args := args) p i v
    exact ⟨(releaseAtPublish_waiting hw hne).trans (congrArg _ (doWork_cavity hf hargs hw hv)), _, rfl, ht, hl⟩
  · exact ⟨(releaseAtPublish_waiting hw (by decide)).trans (congrArg _ (takeSnapshot_of_work .atPublish hw hpl hq hc)),
      _, rfl, rfl, rfl⟩
  · have hp : p < s.table.contexts.length := (List.getElem?_eq_some_iff.mp hc).1
    exact ⟨(releaseAtPublish_checked hw).trans (congrArg _ (commitImage_active hw hpl hq hp hactive)), _, rfl, rfl, rfl⟩

/-- Settles O33: the released work is done and placed, and step 6 follows it. -/
theorem waitingWorkReleased : Obligations.WaitingWorkReleased := by
  have hexec : ∀ s : State, s.resetLow = false → s.tracker.state = .closing → s.closing.stage = .published →
      exec .waitingWorkReleased s = .next (settle (finishClose (releaseAtPublish s))) := by
    intro s hlow hclosing hstage
    change execWaitingWorkReleased s = _
    rw [execWaitingWorkReleased, if_neg (by simp [hlow]), if_pos ((releaseDue_iff s).mpr ⟨hclosing, hstage⟩)]
  refine ⟨fun s y z pl p q c w hlow hclosing hstage hpl hactive hq hc hlast hwork hz => ?_, fun s hlow hclosing hstage hw => ?_⟩
  · obtain ⟨-, hplan⟩ := runningPlan_eq_some hpl
    obtain ⟨hy, x, hyx, htracker, hloader⟩ := releaseAtPublish_eq hplan hactive hq hc hwork
    have hyt : y.tracker = s.tracker := by rw [hyx, (settle_settled x).tracker, htracker]
    have hyp : y.runningPlan = some pl := by
      rw [hyx, settle_runningPlan, State.runningPlan, hloader]
      exact hpl
    have hclose : finishClose y = z := by
      rw [finishClose, hyp]
      exact stepSix_eq (hyt ▸ hactive) hq (hyt ▸ hlast) hz
    rw [hexec s hlow hclosing hstage, hy, hclose]
    exact endsIn_settle z
  · rw [hexec s hlow hclosing hstage, releaseAtPublish_reload hw]
    have hnone : finishClose (startReload s) = startReload s := by rw [finishClose, startReload_runningPlan]
    rw [hnone, startReload_of_work hw]
    exact endsIn_settle _

/-! ## A restored image (R105 to R109) -/

theorem takeHeld_nil {s : State} (h : s.path.held = []) : takeHeld [] s = s := by
  change s.setPath { s.path with held := [] } = s
  rw [← h]
  rfl

/-- A FETCH that is performed with no transaction held delivers its word. -/
theorem exec_fetchPerformed {s : State} {a : Nat} {d : Dest} {q : List Entry} (hlow : s.resetLow = false)
    (hq : s.path.queue = .fetch a d :: q) :
    exec .fetchPerformed s = .next (takeHeld s.path.held (deliver d (readWord s.mem a) (popEntry q s))) := by
  change execFetchPerformed s = _
  rw [execFetchPerformed, if_neg (by simp [hlow]), performFetch, hq]

theorem fetch_endsIn {s x : State} {a : Nat} {d : Dest} {q : List Entry} (hlow : s.resetLow = false)
    (hq : s.path.queue = .fetch a d :: q) (hheld : s.path.held = [])
    (h : deliver d (readWord s.mem a) (popEntry q s) = settle x) (hx : x.path.held = s.path.held) :
    EndsIn (exec .fetchPerformed s) x := by
  have hnone : (settle x).path.held = [] := by
    rw [(settle_settled x).held, hx, hheld]
  rw [exec_fetchPerformed hlow hq, h, hheld, takeHeld_nil hnone]
  exact endsIn_settle x

section
variable {s : State} {pl : Plan} {p x : Nat} {pr : ProfilePlan} {w : Word}

theorem workPhaseIs_of_work {f : Fn} {args : List Nat} {ph : WorkPhase} (h : s.mail.work = some { fn := f, args := args, phase := ph })
    (ph' : WorkPhase) : workPhaseIs ph' s = (ph == ph') := by
  rw [workPhaseIs, h]
  rfl

theorem receiveImageWord_reading (hw : s.mail.work = some { fn := .restoreContext, args := [p, x], phase := .reading })
    (hpl : s.loader.plan = some pl) (hpr : pl.profiles[p]? = some pr) (w : Word) :
    receiveImageWord w s =
      if s.table.buf.length + 1 = pr.imageWords then settle (checkImage pr (s.setTable { s.table with buf := s.table.buf ++ [w] }))
      else s.setTable { s.table with buf := s.table.buf ++ [w] } := by
  unfold receiveImageWord
  rw [workPhaseIs_of_work hw, argProfile_of_work hw hpl hpr]
  simp only [beq_self_eq_true, if_true, State.setTable_table, List.length_append, List.length_singleton]

theorem checkImage_held (pr : ProfilePlan) (s : State) : (checkImage pr s).path.held = s.path.held := by
  unfold checkImage
  split
  · rfl
  · split
    · rfl
    · split
      · rfl
      · exact (commitImage_reacts s).held

theorem windowBusy_iff (s : State) (p : Nat) : windowBusy s p = true ↔
    s.tracker.active = some p ∧ (s.tracker.state = .opened ∨ s.tracker.state = .closing) := by
  simp [windowBusy]

section
variable (hw : s.mail.work = some { fn := .restoreContext, args := [p, x], phase := .reading })
include hw

theorem checkImage_mismatch (hh : imageHeaderOk pr p s.table.buf = false) :
    checkImage pr s = (s.setTable { s.table with buf := [] }).finished .restoreContext [p, x] .imageMismatch := by
  unfold checkImage
  rw [arg_of_work hw, List.getD_cons_zero, hh]
  exact complete_of_work .imageMismatch (s := s.setTable { s.table with buf := [] }) hw

theorem checkImage_bad (hh : imageHeaderOk pr p s.table.buf = true) (hf : imageFieldsOk pr s.table.buf = false) :
    checkImage pr s = (s.setTable { s.table with buf := [] }).finished .restoreContext [p, x] .badImage := by
  unfold checkImage
  rw [arg_of_work hw, List.getD_cons_zero, hh, hf]
  exact complete_of_work .badImage (s := s.setTable { s.table with buf := [] }) hw

theorem checkImage_passes (hh : imageHeaderOk pr p s.table.buf = true) (hf : imageFieldsOk pr s.table.buf = true) :
    checkImage pr s = if windowBusy s p then setPhase .checked s else commitImage s := by
  unfold checkImage
  rw [arg_of_work hw, List.getD_cons_zero, hh, hf]
  rfl

end

end

/-- Settles O51: the last word of an image has it judged. -/
theorem imageJudged : Obligations.ImageJudged := by
  intro s pl p x a pr q hlow hq hheld hpl hw hpr hlen t ws refused busy
  let u := t.setTable { s.table with buf := ws }
  have hends : ∀ z, checkImage pr u = z → EndsIn (exec .fetchPerformed s) z := by
    rintro z rfl
    exact fetch_endsIn hlow hq hheld
      ((receiveImageWord_reading (s := popEntry q s) hw hpl hpr _).trans (if_pos hlen)) (checkImage_held pr u)
  have hidle : s.tracker.active ≠ some p ∨ s.tracker.state = .armed → windowBusy u p = false := by
    intro h
    rw [← Bool.not_eq_true, windowBusy_iff]
    rintro ⟨ha, hb⟩
    have ha' : s.tracker.active = some p := ha
    have hb' : s.tracker.state = .opened ∨ s.tracker.state = .closing := hb
    rcases h with h | h
    · exact h ha'
    · rw [h] at hb'
      simp at hb'
  refine ⟨fun hh => hends _ (checkImage_mismatch hw hh), fun hh hf => hends _ (checkImage_bad hw hh hf),
    fun hh hf hb => hends _ ?_, fun hh hf ha => hends _ ?_, fun hh hf ha hst hp => hends _ ?_⟩
  · exact (checkImage_passes (s := u) hw hh hf).trans ((if_pos ((windowBusy_iff u p).mpr hb)).trans (setPhase_of_work _ hw))
  · rw [checkImage_passes (s := u) hw hh hf, hidle (.inl ha)]
    exact commitImage_inactive (s := u) hw hpl hpr ha
  · rw [checkImage_passes (s := u) hw hh hf, hidle (.inr hst)]
    exact commitImage_active (s := u) hw hpl hpr hp ha

end Sys2Proof.Machine
end

section
/-! PROOFS. The report writer places a notice, and the mailbox its statuses (chapters 8 and 9, 11.4 and 11.7). -/

namespace Sys2Proof.Machine

/-! ## Notices raised (R127) -/

theorem bitAt_eq_getLsbD (w : Word) (i : Nat) : bitAt w i = w.getLsbD i := by
  rw [bitAt, bitsAt_eq, pow_one, BitVec.getLsbD, Nat.testBit_eq_decide_div_mod_eq]

section
variable {s : State} {g : Option Gate} {n : Notice} {r : Ring}

theorem raiseNotice_unmasked (hrun : s.loader.run = .running) (hring : s.report.ring = some r)
    (hmask : r.kindMask.getLsbD n.kind.code = true) :
    raiseNotice g n s = s.setReport { s.report with
      seq := (s.report.seq + 1) % 65536, items := s.report.items ++ [.notice n s.report.seq g] } := by
  unfold raiseNotice
  rw [hrun, hring]
  exact if_pos ((bitAt_eq_getLsbD _ _).trans hmask)

theorem raiseNotice_masked (hrun : s.loader.run = .running) (hring : s.report.ring = some r)
    (hmask : r.kindMask.getLsbD n.kind.code = false) : raiseNotice g n s = s := by
  unfold raiseNotice
  rw [hrun, hring]
  exact if_neg (by rw [bitAt_eq_getLsbD, hmask]; decide)

theorem raiseNotice_notRunning (hrun : s.loader.run ≠ .running) : raiseNotice g n s = s := by
  unfold raiseNotice
  split
  next h _ => exact absurd h hrun
  all_goals rfl

end

/-! ## Entries placed one after the other (R134) -/

theorem hasRoom_of_lt {s : State} (h : s.path.queue.length < 32) : hasRoom s = true := decide_eq_true h

/-- Step 4 has nothing to go on with: it has no item left, or waits for one of the report writer. -/
theorem advance_of_waiting {s : State} (h : s.closing.items = [] ∨ gated .closeStep s = true) : advance s = s := by
  rcases h with h | h
  · exact advance_idle h
  · exact if_pos h

theorem exec_placement {s : State} {p : Producer} (hlow : s.resetLow = false) (h : canPlace s p = true) :
    exec (.queueRoomPlacement p) s = .next (placeNext p s) := by
  change execQueueRoomPlacement p s = _
  rw [execQueueRoomPlacement, if_neg (by simp [hlow]), if_pos h]

theorem exec_noPlacement {s : State} {p : Producer} (h : canPlace s p = false) :
    exec (.queueRoomPlacement p) s = .next s := by
  change execQueueRoomPlacement p s = _
  rw [execQueueRoomPlacement, h]
  simp

/-- `k` entries of the report writer, each with room for it, lead from `s` to `t`. -/
def ReportPlaces : Nat → State → State → Prop
  | 0, s, t => s = t
  | k + 1, s, t => canPlace s .reportWriter = true ∧ ReportPlaces k (placeNext .reportWriter s) t

theorem ReportPlaces.runAll {k : Nat} {s t : State} (hlow : s.resetLow = false) (h : ReportPlaces k s t) :
    runAll (List.replicate k (.queueRoomPlacement .reportWriter)) s = some t := by
  induction k generalizing s with
  | zero => exact congrArg some h
  | succ k ih =>
    obtain ⟨hcan, hrest⟩ := h
    have hlow' : (placeNext .reportWriter s).resetLow = false := (placeNext_settled _ s).resetLow.trans hlow
    simp only [List.replicate_succ, Machine.runAll, exec_placement hlow hcan]
    exact ih hlow' hrest

theorem ReportPlaces.placeUpTo {k : Nat} (n : Nat) {s t : State} (h : ReportPlaces k s t) :
    placeUpTo (k + n) s = placeUpTo n t := by
  induction k generalizing s with
  | zero =>
    obtain rfl : s = t := h
    rw [Nat.zero_add]
  | succ k ih =>
    obtain ⟨hcan, hrest⟩ := h
    rw [show k + 1 + n = k + n + 1 by omega, Machine.placeUpTo]
    have hfirst : producers.find? (canPlace s) = some .reportWriter := by
      rw [producers, List.find?_cons_of_pos (by exact hcan)]
    rw [hfirst]
    exact ih hrest

/-! ## A notice placed (R128, 11.7) -/

theorem canPlace_reportWriter {s : State} {i : ReportItem} {rest : List ReportItem} (hitems : s.report.items = i :: rest)
    (hroom : s.path.queue.length < 32) : canPlace s .reportWriter = true := by
  rw [canPlace, hasRoom_of_lt hroom, hitems]
  rfl

/-- The state in which the report writer has placed `es` and gone on to `items`. -/
def State.reported (es : List Entry) (items : List ReportItem) (s : State) : State :=
  (s.setPath { s.path with queue := s.path.queue ++ es }).setReport { s.report with items := items }

section
variable {s t : State} {g : Option Gate} {rest : List ReportItem}

theorem reported_reported (es fs : List Entry) (is js : List ReportItem) (s : State) :
    (s.reported es is).reported fs js = s.reported (es ++ fs) js := by
  simp only [State.reported, State.setPath, State.setReport, List.append_assoc]

/-- The words of a report item go to the queue one by one. -/
theorem reportPlaces_words (ws : List (Nat × Word)) {s : State} (hitems : s.report.items = .rest ws g :: rest)
    (hclose : s.closing.items = []) (hroom : s.path.queue.length + ws.length ≤ 32) :
    ReportPlaces ws.length s (s.reported (ws.map fun x => .post x.1 x.2 0) (.rest [] g :: rest)) := by
  induction ws generalizing s with
  | nil =>
    change s = (s.setPath { s.path with queue := s.path.queue ++ [] }).setReport { s.report with items := .rest [] g :: rest }
    rw [← hitems, List.append_nil]
    rfl
  | cons x ws ih =>
    obtain ⟨a, w⟩ := x
    have hplace : placeNext .reportWriter s = s.reported [.post a w 0] (.rest ws g :: rest) := by
      have hreport : placeReport s = s.reported [.post a w 0] (.rest ws g :: rest) := by
        rw [placeReport, hitems]
        rfl
      change advance (placeReport s) = _
      rw [hreport]
      exact advance_idle hclose
    rw [List.length_cons] at hroom ⊢
    refine ⟨canPlace_reportWriter hitems (by omega), ?_⟩
    rw [hplace]
    have hnext := ih (s := s.reported [.post a w 0] (.rest ws g :: rest)) rfl hclose (by
      simp only [State.reported, State.setReport_path, State.setPath_path, List.length_append, List.length_singleton]
      omega)
    rw [reported_reported] at hnext
    exact hnext

/-- The four words of a notice, its bytes and half words joined. -/
theorem noticeWords_eq {n : Notice} {seq overflow producer : Nat} (h1 : n.subject < 65536) (h2 : n.cycle < 65536)
    (h3 : n.profile.getD 0xFF < 256) (h4 : seq < 65536) (h5 : overflow ≤ 65535) (h6 : producer < 1024) :
    noticeWords n seq overflow producer =
      [BitVec.ofNat 32 (n.kind.code + n.profile.getD 0xFF * 2 ^ 8 + n.subject * 2 ^ 16),
       BitVec.ofNat 32 (n.cycle + seq * 2 ^ 16), BitVec.ofNat 32 n.detail,
       BitVec.ofNat 32 (overflow + producer * 2 ^ 16)] := by
  have hkind : n.kind.code < 256 := by cases n.kind <;> decide
  have hhead : mkWord [fld n.kind.code 0 8, fld (profileCode8 n.profile) 8 8, fld n.subject 16 16]
      = BitVec.ofNat 32 (n.kind.code + n.profile.getD 0xFF * 2 ^ 8 + n.subject * 2 ^ 16) := by
    refine mkWord_eq ?_
    rw [fld_of_lt (by omega), fld_of_lt (by exact h3), fld_of_lt (by omega)]
    repeat rw [List.sum_cons]
    rw [List.sum_nil, profileCode8]
    omega
  have hlast : mkWord [fld overflow 0 16, fld producer 16 10] = BitVec.ofNat 32 (overflow + producer * 2 ^ 16) := by
    refine mkWord_eq ?_
    rw [fld_of_lt (by omega), fld_of_lt (by omega)]
    repeat rw [List.sum_cons]
    rw [List.sum_nil]
    omega
  rw [noticeWords, hhead, pairWord_eq h2 h4, hlast, mkWord_eq (n := n.detail) (by rw [List.sum_singleton])]

/-- The notice `n` has been placed into a ring that is not full (R128). -/
def State.noticed (ring : Ring) (n : Notice) (seq : Nat) (rest : List ReportItem) (s : State) : State :=
  let e := ring.base + s.report.producer * 16
  let next := (s.report.producer + 1) % ring.size
  (s.setPath { s.path with
      queue := s.path.queue ++
        [.post e (BitVec.ofNat 32 (n.kind.code + n.profile.getD 0xFF * 2 ^ 8 + n.subject * 2 ^ 16)) 0,
         .post (e + 4) (BitVec.ofNat 32 (n.cycle + seq * 2 ^ 16)) 0,
         .post (e + 8) (BitVec.ofNat 32 n.detail) 0,
         .post (e + 12) (BitVec.ofNat 32 (s.report.overflow + s.report.producer * 2 ^ 16)) 0,
         .post (s.base + 0x40) (BitVec.ofNat 32 next) 0] }).setReport
    { s.report with producer := next, items := rest }

theorem ReportPlaces.trans {k l : Nat} {s t u : State} (h : ReportPlaces k s t) (h' : ReportPlaces l t u) :
    ReportPlaces (k + l) s u := by
  induction k generalizing s with
  | zero =>
    obtain rfl : s = t := h
    rwa [Nat.zero_add]
  | succ k ih =>
    obtain ⟨hcan, hrest⟩ := h
    rw [show k + 1 + l = k + l + 1 by omega]
    exact ⟨hcan, ih hrest⟩

/-- The fields of a notice, and of its place in the ring, fit their widths. -/
structure NoticeFits (ring : Ring) (n : Notice) (seq : Nat) (r : Report) : Prop where
  size : ring.size ≤ 1024
  producer : r.producer < ring.size
  overflow : r.overflow ≤ 65535
  seq : seq < 65536
  subject : n.subject < 65536
  cycle : n.cycle < 65536
  profile : n.profile.getD 0xFF < 256

variable {ring : Ring} {n : Notice} {seq : Nat}

theorem indexWord_eq {x : Nat} (h : x < 1024) : mkWord [fld x 0 10] = BitVec.ofNat 32 x := by
  refine mkWord_eq ?_
  rw [List.sum_singleton, fld_of_lt (by omega), pow_zero, Nat.mul_one]

theorem reportPlaces_producer (hring : s.report.ring = some ring) (hitems : s.report.items = .rest [] g :: rest)
    (hclose : s.closing.items = []) (hroom : s.path.queue.length < 32) (hsize : 0 < ring.size) (hsize' : ring.size ≤ 1024) :
    let next := (s.report.producer + 1) % ring.size
    ReportPlaces 1 s ((s.setPath { s.path with queue := s.path.queue ++ [.post (s.base + 0x40) (BitVec.ofNat 32 next) 0] }).setReport
      { s.report with producer := next, items := rest }) := by
  intro next
  refine ⟨canPlace_reportWriter hitems hroom, ?_⟩
  have hnext : next < 1024 := (Nat.mod_lt _ hsize).trans_le hsize'
  have hreport : placeReport s = placeProducerIndex ring rest s := by
    rw [placeReport, hitems, hring]
  change advance (placeReport s) = _
  rw [hreport, placeProducerIndex, indexWord_eq hnext]
  exact advance_idle hclose

/-- A notice at the front of the report writer's items, with room and a ring that is not full, is placed by five entries. -/
theorem reportPlaces_notice (hring : s.report.ring = some ring) (hitems : s.report.items = .notice n seq g :: rest)
    (hclose : s.closing.items = []) (hroom : s.path.queue.length + 5 ≤ 32) (hfits : NoticeFits ring n seq s.report)
    (hfull : (s.report.producer + 1) % ring.size ≠ s.report.consumer) :
    ReportPlaces 5 s (s.noticed ring n seq rest) := by
  have hsize : 0 < ring.size := Nat.zero_lt_of_lt hfits.producer
  have hwords := noticeWords_eq hfits.subject hfits.cycle hfits.profile hfits.seq hfits.overflow
    (hfits.producer.trans_le hfits.size)
  let e := ring.base + s.report.producer * 16
  let w0 := BitVec.ofNat 32 (n.kind.code + n.profile.getD 0xFF * 2 ^ 8 + n.subject * 2 ^ 16)
  let ws : List (Nat × Word) := [(e + 4, BitVec.ofNat 32 (n.cycle + seq * 2 ^ 16)), (e + 8, BitVec.ofNat 32 n.detail),
    (e + 12, BitVec.ofNat 32 (s.report.overflow + s.report.producer * 2 ^ 16))]
  let u := s.reported [.post e w0 0] (.rest ws g :: rest)
  have hfirst : ReportPlaces 1 s u := by
    refine ⟨canPlace_reportWriter hitems (by omega), ?_⟩
    have hreport : placeReport s = placeNotice ring n seq g rest s := by
      rw [placeReport, hitems, hring]
    change advance (placeReport s) = _
    rw [hreport, placeNotice, if_neg hfull, hwords]
    exact advance_idle hclose
  have hrest : ReportPlaces 3 u (u.reported (ws.map fun x => .post x.1 x.2 0) (.rest [] g :: rest)) :=
    reportPlaces_words ws rfl hclose (by
      simp only [u, State.reported, State.setReport_path, State.setPath_path, List.length_append, List.length_singleton]
      exact (show s.path.queue.length + 1 + 3 ≤ 32 by omega))
  have hlast := reportPlaces_producer (s := u.reported (ws.map fun x => .post x.1 x.2 0) (.rest [] g :: rest))
    (g := g) (rest := rest) hring rfl hclose (by
      simp only [u, State.reported, State.setReport_path, State.setPath_path, List.length_append, List.length_singleton]
      exact (show s.path.queue.length + 1 + 3 < 32 by omega)) hsize hfits.size
  have hall := hfirst.trans (hrest.trans hlast)
  rw [reported_reported] at hall
  refine cast (congrArg _ ?_) hall
  simp only [State.noticed, State.reported, State.setPath, State.setReport, List.append_assoc]
  rfl

end

/-- With the ring full a notice is lost, and the overflow count is posted (R128). -/
theorem placeNext_full {s : State} {ring : Ring} {n : Notice} {seq : Nat} {g : Option Gate} {rest : List ReportItem}
    (hring : s.report.ring = some ring) (hitems : s.report.items = .notice n seq g :: rest) (hclose : s.closing.items = [])
    (hfull : (s.report.producer + 1) % ring.size = s.report.consumer) :
    placeNext .reportWriter s = (s.setPath { s.path with
        queue := s.path.queue ++ [.post (s.base + 0x44) (BitVec.ofNat 32 (min 65535 (s.report.overflow + 1))) 0] }).setReport
      { s.report with overflow := min 65535 (s.report.overflow + 1), items := rest } := by
  have hreport : placeReport s = placeNotice ring n seq g rest s := by
    rw [placeReport, hitems, hring]
  have hword : mkWord [fld (satAdd 65535 s.report.overflow 1) 0 16] = BitVec.ofNat 32 (min 65535 (s.report.overflow + 1)) := by
    refine mkWord_eq ?_
    have hle : satAdd 65535 s.report.overflow 1 < 2 ^ 16 := lt_of_le_of_lt (Nat.min_le_left _ _) (by decide)
    rw [List.sum_singleton, fld_of_lt hle, pow_zero, Nat.mul_one, satAdd]
  change advance (placeReport s) = _
  rw [hreport, placeNotice, if_pos hfull]
  dsimp only
  rw [hword]
  exact advance_idle hclose

/-- Settles O37: a notice takes its number as it is raised, and is placed by five entries, or lost to a full ring. -/
theorem noticePlaced : Obligations.NoticePlaced := by
  refine ⟨fun s g n => ⟨fun r => raiseNotice_unmasked, fun r => raiseNotice_masked, raiseNotice_notRunning⟩, ?_⟩
  intro s r n seq hlow hring hitems hclose hroom hsize hprod hcons hover hseq hsub hcyc hdet hprof e next
  refine ⟨fun hfree => ?_, fun hfull => ?_⟩
  · exact ReportPlaces.runAll hlow (reportPlaces_notice hring hitems hclose hroom
      { size := hsize, producer := hprod, overflow := hover, seq := hseq, subject := hsub, cycle := hcyc, profile := hprof }
      hfree)
  · rw [exec_placement hlow (canPlace_reportWriter hitems (by omega)), placeNext_full hring hitems hclose hfull]

/-! ## Statuses placed (R141, R142) -/

section
variable {s : State} {g : Gate}

theorem gated_iff : gated g s = true ↔ ∃ i ∈ s.report.items, i.gate = some g := by
  simp [gated]

/-- What waits for an item still waits once a further notice has been raised. -/
theorem gated_raiseNotice (g' : Option Gate) (n : Notice) (h : gated g s = true) : gated g (raiseNotice g' n s) = true := by
  rcases raiseNotice_cases g' n s with heq | heq
  · rw [heq]; exact h
  · rw [heq, gated_iff]
    obtain ⟨i, hi, hg⟩ := gated_iff.mp h
    exact ⟨i, List.mem_append_left _ hi, hg⟩

theorem requestDone_closing (serial : Nat) (r : Result) (s : State) : (s.requestDone serial r).closing = s.closing := by
  rw [State.requestDone, raiseNotice_eq]
  rfl

/-- A status for which there is room is placed, and step 4 goes no further. -/
theorem exec_status {t : State} (hlow : s.resetLow = false) (hroom : s.path.queue.length < 32) (hready : statusReady s = true)
    (hplace : placeStatus s = t) (hwait : t.closing.items = [] ∨ gated .closeStep t = true) :
    exec (.queueRoomPlacement .mailbox) s = .next t := by
  have hcan : canPlace s .mailbox = true := by
    rw [canPlace, hasRoom_of_lt hroom, hready]
    rfl
  rw [exec_placement hlow hcan]
  change Host.Outcome.next (advance (placeStatus s)) = _
  rw [hplace, advance_of_waiting hwait]

theorem enqueue_status (w : Word) (m : Mailbox) :
    enqueue (.post (s.base + Config.statusOffset) w 0) (s.setMail m)
      = (s.setPath { s.path with queue := s.path.queue ++ [.post s.base w 0] }).setMail m := by
  rw [show s.base + Config.statusOffset = s.base from Nat.add_zero _]
  rfl

theorem placeStatus_taken {w : Word} {r : List MailItem} (h : s.mail.items = .taken w :: r) :
    placeStatus s = (s.setPath { s.path with queue := s.path.queue ++ [.post s.base w 0] }).setMail { s.mail with items := r } := by
  rw [placeStatus, h]
  exact enqueue_status w _

theorem placeStatus_finished {w : Word} {n : Nat} {x : Result} {r : List MailItem} (h : s.mail.items = .finished w n x :: r) :
    placeStatus s = ((s.setPath { s.path with queue := s.path.queue ++ [.post s.base w 0] }).setMail
      { s.mail with items := r }).requestDone n x := by
  rw [placeStatus, h]
  exact congrArg (State.requestDone n x) (enqueue_status w _)

theorem placeStatus_done {x : Result} {f : PlanFault} {r : List MailItem} (h : s.mail.items = .done x f :: r) :
    placeStatus s = ((s.setPath { s.path with queue := s.path.queue ++ [.post s.base (doneStatus s.mail x f) 0] }).setMail
      { s.mail with state := .idle, work := none, items := r }).requestDone s.mail.serial x := by
  rw [placeStatus, h, ← doneWord_eq_doneStatus]
  exact congrArg (State.requestDone s.mail.serial x) (enqueue_status _ _)

end

/-- A DONE status with nothing else waiting is placed with its notice, and nothing is left to place. -/
theorem settle_done {s : State} {x : Result} {f : PlanFault} {r : Ring} (hitems : s.mail.items = [.done x f])
    (hreport : s.report.items = []) (hclose : s.closing.items = []) (htable : s.table.items = []) (hdump : s.eval.dump = [])
    (hloader : s.loader.items = []) (hroom : s.path.queue.length + 6 ≤ 32) (hrun : s.loader.run = .running)
    (hring : s.report.ring = some r) (hmask : r.kindMask.getLsbD NoticeKind.requestDone.code = true)
    (hfits : NoticeFits r (s.notice .requestDone s.mail.serial x.code) s.report.seq s.report)
    (hfree : (s.report.producer + 1) % r.size ≠ s.report.consumer) :
    let u := (s.setPath { s.path with queue := s.path.queue ++ [.post s.base (doneStatus s.mail x f) 0] }).setMail
      { s.mail with state := .idle, work := none, items := [] }
    settle s = (u.setReport { s.report with seq := (s.report.seq + 1) % 65536 }).noticed r
      (s.notice .requestDone s.mail.serial x.code) s.report.seq [] := by
  intro u
  let v := u.setReport { s.report with
    seq := (s.report.seq + 1) % 65536
    items := [.notice (s.notice .requestDone s.mail.serial x.code) s.report.seq none] }
  have hraised : u.requestDone s.mail.serial x = v := by
    have hunmasked := raiseNotice_unmasked (s := u) (g := none) (n := s.notice .requestDone s.mail.serial x.code)
      hrun hring hmask
    refine hunmasked.trans ?_
    change u.setReport { s.report with seq := _, items := s.report.items ++ _ } = _
    rw [hreport, List.nil_append]
    rfl
  have hfind : producers.find? (canPlace s) = some .mailbox := by
    have hwriter : canPlace s .reportWriter = false := by
      rw [canPlace, hreport]
      simp
    have hready : statusReady s = true := by
      rw [statusReady, hitems]
      simp [gated, hreport]
    have hmail : canPlace s .mailbox = true := by
      rw [canPlace, hasRoom_of_lt (by omega), hready]
      rfl
    rw [producers, List.find?_cons_of_neg (by rw [hwriter]; decide), List.find?_cons_of_pos (by exact hmail)]
  have hfirst : placeNext .mailbox s = v := by
    change advance (placeStatus s) = v
    rw [placeStatus_done hitems]
    change advance (u.requestDone s.mail.serial x) = v
    rw [hraised]
    exact advance_idle hclose
  have hplaces : ReportPlaces 5 v (v.noticed r (s.notice .requestDone s.mail.serial x.code) s.report.seq []) := by
    refine reportPlaces_notice (g := none) hring rfl hclose ?_
      { size := hfits.size, producer := hfits.producer, overflow := hfits.overflow, seq := hfits.seq, subject := hfits.subject,
        cycle := hfits.cycle, profile := hfits.profile } hfree
    change (s.path.queue ++ [_]).length + 5 ≤ 32
    rw [List.length_append, List.length_singleton]
    omega
  have hrest : ∀ n, placeUpTo n (v.noticed r (s.notice .requestDone s.mail.serial x.code) s.report.seq [])
      = v.noticed r (s.notice .requestDone s.mail.serial x.code) s.report.seq [] := by
    intro n
    cases n with
    | zero => rfl
    | succ n =>
      have hnone : producers.find? (canPlace (v.noticed r (s.notice .requestDone s.mail.serial x.code) s.report.seq [])) = none := by
        rw [List.find?_eq_none]
        intro p _
        cases p <;> simp [canPlace, State.noticed, v, u, statusReady, htable, hdump, hloader]
      rw [placeUpTo, hnone]
  rw [settle, advance_idle hclose, show Config.queueCapacity = 31 + 1 from rfl, placeUpTo, hfind]
  dsimp only
  rw [hfirst, show 31 = 5 + 26 from rfl, hplaces.placeUpTo, hrest]
  rfl

/-- Settles O44: the statuses in their order, and the notice that follows a DONE. -/
theorem statusPlaced : Obligations.StatusPlaced := by
  refine ⟨fun s hlow hroom hclose => ?_, ?_⟩
  · intro o posted
    have hwait : s.closing.items = [] ∨ gated .closeStep s = true := hclose.imp_right gated_iff.mpr
    refine ⟨fun w r h => ?_, fun w n x r h => ?_, fun x f r h hno => ?_, fun x f r h hyes => ?_, fun h => ?_⟩
    · exact exec_status hlow hroom (by rw [statusReady, h]) (placeStatus_taken h) hwait
    · refine exec_status hlow hroom (by rw [statusReady, h]) (placeStatus_finished h) (hwait.imp (fun hc => ?_) fun hg => ?_)
      · rw [requestDone_closing]; exact hc
      · exact gated_raiseNotice _ _ hg
    · have hready : statusReady s = true := by
        rw [statusReady, h]
        simpa [gated] using hno
      refine exec_status hlow hroom hready (placeStatus_done h) (hwait.imp (fun hc => ?_) fun hg => ?_)
      · rw [requestDone_closing]; exact hc
      · exact gated_raiseNotice _ _ hg
    · have hready : statusReady s = false := by
        rw [statusReady, h]
        simpa [gated] using hyes
      exact exec_noPlacement (by rw [canPlace, hready, Bool.and_false])
    · exact exec_noPlacement (by rw [canPlace, statusReady, h, Bool.and_false])
  · intro s x f r hitems hreport hclose htable hdump hloader hroom hrun hring hmask hsize hprod hfree hover hseq hcyc hserial hp e next
    have hprofile : s.tracker.active.getD 0xFF < 256 := by
      cases ha : s.tracker.active with
      | none => decide
      | some p => exact (hp p ha).trans_lt (by decide)
    have hfits : NoticeFits r (s.notice .requestDone s.mail.serial x.code) s.report.seq s.report :=
      { size := hsize, producer := hprod, overflow := hover, seq := hseq, subject := hserial.trans (by decide), cycle := hcyc,
        profile := hprofile }
    rw [settle_done hitems hreport hclose htable hdump hloader hroom hrun hring hmask hfits hfree, ← hreport]
    simp only [State.noticed, State.setPath_path, State.setMail_path, State.setReport_path, List.append_assoc]
    rfl

end Sys2Proof.Machine
end

section
/-! PROOFS. Close processing: steps 1 to 4, and how step 4 goes on (1.10 and chapter 8). -/

namespace Sys2Proof.Machine

/-! ## What a close has to place (R116, R126) -/

section
variable (s : State) (q : ProfilePlan)

theorem marks_eq (o : CavOut) :
    marks q o = ((o.after.state == .cracked && q.markOnCrack) || (o.after.state == .suspect && q.markOnSuspect)) := by
  unfold marks
  cases o.after.state <;> simp

theorem notices_eq (o : CavOut) :
    o.notices s = (o.lost.map fun k => s.naming .bindingLost o.number k.val).toList ++
      (if o.before.blind = o.after.blind then [] else [s.naming .blindChange o.number (if o.after.blind then 1 else 0)]) ++
      if o.before.state = o.after.state then []
      else [s.naming .cavityState o.number (o.before.state.code + 256 * o.after.state.code)] := by
  unfold CavOut.notices CavOut.blindChanged CavOut.stateChanged
  refine congrArg₂ _ (congrArg₂ _ ?_ ?_) ?_
  · cases o.lost <;> rfl
  · by_cases h : o.before.blind = o.after.blind
    · simp [h]
    · rw [if_neg h, if_pos (bne_iff_ne.mpr h)]
      rfl
  · by_cases h : o.before.state = o.after.state
    · simp [h]
    · rw [if_neg h, if_pos (bne_iff_ne.mpr h)]
      rfl

theorem stepFourItems_eq (x : CloseInput) (rs : List ChanResult) (outs : List CavOut) :
    stepFourItems x rs outs s =
      recordItems s x.number x.profile rs outs ++ (x.context.channels.filterMap (channelNotice s rs)).map .notice
        ++ (outs.flatMap fun o =>
            (o.lost.map fun k => s.naming .bindingLost o.number k.val).toList ++
              (if o.before.blind = o.after.blind then [] else [s.naming .blindChange o.number (if o.after.blind then 1 else 0)]) ++
              if o.before.state = o.after.state then []
              else [s.naming .cavityState o.number (o.before.state.code + 256 * o.after.state.code)]).map .notice
        ++ (if (outs.countP fun o =>
              (o.after.state == .cracked && x.profile.markOnCrack) || (o.after.state == .suspect && x.profile.markOnSuspect)) = 0
            then []
            else [.markPush (outs.countP fun o =>
              (o.after.state == .cracked && x.profile.markOnCrack) || (o.after.state == .suspect && x.profile.markOnSuspect))
              ((s.tracker.openCycle + x.profile.delay) % 65536)]) := by
  unfold stepFourItems markItems
  rw [funext (marks_eq x.profile), funext (notices_eq s)]

end

/-! ## CHANNEL_CLOSE (R13, R44) -/

section
variable {s : State} {pl : Plan} {p : Nat} {q : ProfilePlan} {c : Context}

theorem closeDue_iff (s : State) : closeDue s = true ↔
    s.tracker.state = .closing ∧ s.closing.stage = .pending ∧ s.eval.busy = none := by
  simp [closeDue, and_assoc]

theorem closeInput_eq (hpl : s.runningPlan = some pl) (ha : s.tracker.active = some p) (hq : pl.profiles[p]? = some q)
    (hc : s.table.contexts[p]? = some c) :
    closeInput s = some { plan := pl, number := p, profile := q, context := c } := by
  unfold closeInput
  rw [hpl, ha]
  dsimp only
  rw [hq, hc]

theorem carryOut_of_not_handed (h : ∀ k, s.mail.work = some k → k.phase ≠ .handed) : carryOut s = s := by
  have hnone : handedFn s = none := by
    unfold handedFn
    split
    next w hw => exact if_neg (h w hw)
    · rfl
  rw [carryOut, hnone]

end

/-- The steps change their own items of the state; the context of step 1 gives way to that of step 2. -/
theorem closeSteps_eq (x : CloseInput) (s : State) :
    let rs := closeChannels s x.plan
    let outs := closeCavities rs x.profile x.context
    let c' : Context := { channels := x.context.channels.map (closeChannelCtx rs), cavities := outs.map fun o => o.after }
    closeSteps x s =
      ((((s.setEval { s.eval with accums := finalAccums rs s.eval.accums, held := some (heldSet rs) }).setTable
            { s.table with contexts := s.table.contexts.set x.number c' }).setReport
          { s.report with
            building := closeBank s x.number c' outs (groupMedian rs (x.profile.cavities.zip x.context.cavities))
              (someLong rs x.profile) }).setOut
        { s.out with stopLatch := s.out.stopLatch || (x.profile.stopAction && outs.any CavOut.enteredCracked) }).setClosing
        { stage := .placing, items := stepFourItems x rs outs s } := by
  intro rs outs c'
  have htwo : stepTwo x rs outs (stepOne x rs s) =
      (s.setEval { s.eval with accums := finalAccums rs s.eval.accums, held := some (heldSet rs) }).setTable
        { s.table with contexts := s.table.contexts.set x.number c' } := by
    unfold stepTwo stepOne
    simp only [State.setTable_table, List.set_set]
    rfl
  change stepFour x rs outs (stepThree x rs outs (stepTwo x rs outs (stepOne x rs s))) = _
  rw [htwo]
  rfl

/-- Settles O30: a close carries out its steps on the results of the channels and the cavities. -/
theorem closeProcessed : Obligations.CloseProcessed := by
  intro s pl p q c hlow hclosing hstage hbusy hhanded hpl ha hq hc rs outs c' cracked marking lost blind changed
  have hexec : exec .channelClose s = .next (settle (closeSteps { plan := pl, number := p, profile := q, context := c } s)) := by
    change execChannelClose s = _
    rw [execChannelClose, if_neg (by simp [hlow]), if_pos ((closeDue_iff s).mpr ⟨hclosing, hstage, hbusy⟩)]
    dsimp only
    rw [carryOut_of_not_handed hhanded, closeInput_eq hpl ha hq hc]
  rw [hexec, closeSteps_eq]
  dsimp only
  rw [stepFourItems_eq]
  exact endsIn_settle _

/-! ## Step 4 goes on (R116, R126) -/

/-- `u` is `s` with the report writer's first entry placed, `js` being its further items. -/
structure FirstPlaced (s u : State) (js : List ReportItem) : Prop where
  can : canPlace s .reportWriter = true
  placed : ∀ c, placeReport (s.setClosing c) = u.setClosing c
  closing : u.closing = s.closing
  items : u.report.items = js
  seq : u.report.seq = s.report.seq
  ring : u.report.ring = s.report.ring
  loader : u.loader = s.loader
  tracker : u.tracker = s.tracker
  out : u.out = s.out

theorem firstPlaced_of {s u : State} {g : Option Gate} {js : List ReportItem} (hroom : s.path.queue.length < 32)
    (h : (∃ a w, s.report.items = .post a w g :: js ∧
        u = (s.setPath { s.path with queue := s.path.queue ++ [.post a w 0] }).setReport { s.report with items := js }) ∨
      (∃ r : Ring, s.report.items = .rest [] g :: js ∧ s.report.ring = some r ∧ 0 < r.size ∧ r.size ≤ 1024 ∧
        let next := (s.report.producer + 1) % r.size
        u = (s.setPath { s.path with
            queue := s.path.queue ++ [.post (s.base + 0x40) (BitVec.ofNat 32 next) 0] }).setReport
              { s.report with producer := next, items := js })) : FirstPlaced s u js := by
  rcases h with ⟨a, w, hitems, rfl⟩ | ⟨r, hitems, hring, hsize, hsize', rfl⟩
  · refine { can := canPlace_reportWriter hitems hroom, placed := fun c => ?_, closing := rfl, items := rfl, seq := rfl,
             ring := rfl, loader := rfl, tracker := rfl, out := rfl }
    rw [placeReport, State.setClosing_report, hitems]
    rfl
  · refine { can := canPlace_reportWriter hitems hroom, placed := fun c => ?_, closing := rfl, items := rfl, seq := rfl,
             ring := rfl, loader := rfl, tracker := rfl, out := rfl }
    have hindex := indexWord_eq ((Nat.mod_lt (s.report.producer + 1) hsize).trans_le hsize')
    rw [placeReport, State.setClosing_report, hitems, hring]
    dsimp only
    rw [placeProducerIndex, State.setClosing_report, hindex]
    rfl

section
variable {s u : State} {js : List ReportItem}

theorem pushMark_setClosing (c t : Nat) (v : Closing) (s : State) :
    pushMark c t (s.setClosing v) = (pushMark c t s).setClosing v := by
  unfold pushMark
  rw [raiseNotice_eq, raiseNotice_eq]
  by_cases h : s.out.marks.length < Config.markCapacity
  · rw [if_pos h]
    exact if_pos h
  · rw [if_neg h]
    exact if_neg h

theorem raiseNotice_setClosing (g : Option Gate) (n : Notice) (v : Closing) (s : State) :
    raiseNotice g n (s.setClosing v) = (raiseNotice g n s).setClosing v := by
  rw [raiseNotice_eq, raiseNotice_eq]
  rfl

theorem pushMark_closing (c t : Nat) (s : State) : (pushMark c t s).closing = s.closing := by
  unfold pushMark
  split
  · rfl
  · exact raiseNotice_closing ..

/-- What step 4 raises of a list does not depend on the items it had to place before. -/
theorem raiseDue_setItems (xs ys : List StepItem) (s : State) :
    raiseDue xs (s.setClosing { s.closing with items := ys }) = raiseDue xs s := by
  induction xs generalizing s with
  | nil => rfl
  | cons x xs ih =>
    cases x with
    | post a w => rfl
    | notice n =>
      unfold raiseDue
      rw [raiseNotice_setClosing]
      have hc := raiseNotice_closing (some .closeStep) n s
      generalize raiseNotice (some .closeStep) n s = v at hc ⊢
      rw [← hc]
      exact if_congr Iff.rfl rfl (ih v)
    | markPush c t =>
      unfold raiseDue
      rw [pushMark_setClosing]
      have hc := pushMark_closing c t s
      generalize pushMark c t s = v at hc ⊢
      rw [← hc]
      exact if_congr Iff.rfl rfl (ih v)

theorem FirstPlaced.exec (h : FirstPlaced s u js) (hlow : s.resetLow = false) :
    exec (.queueRoomPlacement .reportWriter) s = .next (advance u) := by
  rw [exec_placement hlow h.can]
  change Host.Outcome.next (advance (placeReport (s.setClosing s.closing))) = _
  rw [h.placed, ← h.closing]
  rfl

theorem FirstPlaced.setItems (h : FirstPlaced s u js) (xs : List StepItem) :
    FirstPlaced (s.setClosing { s.closing with items := xs }) (u.setClosing { u.closing with items := xs }) js where
  can := h.can
  placed c := h.placed c
  closing := by rw [State.setClosing_closing, h.closing, State.setClosing_closing]
  items := h.items
  seq := h.seq
  ring := h.ring
  loader := h.loader
  tracker := h.tracker
  out := h.out

theorem advance_free (h : ∀ j ∈ u.report.items, j.gate ≠ some .closeStep) : advance u = raiseDue u.closing.items u := by
  refine if_neg fun hg => ?_
  obtain ⟨i, hi, hgate⟩ := gated_iff.mp hg
  exact h i hi hgate

theorem gated_append (g : Gate) (xs : List ReportItem) (x : ReportItem) (hx : x.gate = some g) (s : State)
    (h : s.report.items = xs ++ [x]) : gated g s = true :=
  gated_iff.mpr ⟨x, by simp [h], hx⟩

/-- Once nothing of step 4 waits behind the entry placed, step 4 goes on from its first item. -/
theorem FirstPlaced.goesOn (h : FirstPlaced s u js) (hlow : s.resetLow = false) (hfree : ∀ j ∈ js, j.gate ≠ some .closeStep) :
    Machine.exec (.queueRoomPlacement .reportWriter) s = .next (raiseDue s.closing.items u) := by
  rw [h.exec hlow, advance_free (by rw [h.items]; exact hfree), h.closing]

theorem FirstPlaced.waits (h : FirstPlaced s u js) (hlow : s.resetLow = false)
    (hwait : (¬ ∀ j ∈ js, j.gate ≠ some .closeStep) ∨ s.closing.items = []) :
    Machine.exec (.queueRoomPlacement .reportWriter) s = .next u := by
  rw [h.exec hlow, advance_of_waiting]
  rcases hwait with hno | hnil
  · right
    rw [gated_iff, h.items]
    simpa using hno
  · left
    rw [h.closing, hnil]

theorem FirstPlaced.not_gated (h : FirstPlaced s u js) (hfree : ∀ j ∈ js, j.gate ≠ some .closeStep) :
    gated .closeStep u = false := by
  rw [← Bool.not_eq_true, gated_iff, h.items]
  exact fun ⟨i, hi, hg⟩ => hfree i hi hg

/-- A notice of step 4 that the ring masks, or that no ring takes, leaves the state. -/
theorem FirstPlaced.masked (h : FirstPlaced s u js) {n : Notice}
    (hn : ∀ r, s.report.ring = some r → r.kindMask.getLsbD n.kind.code = false) : raiseNotice (some .closeStep) n u = u := by
  by_cases hrun : u.loader.run = .running
  · cases hring : u.report.ring with
    | none => simp [raiseNotice, hrun, hring]
    | some r => exact raiseNotice_masked hrun hring (hn r (h.ring ▸ hring))
  · exact raiseNotice_notRunning hrun

theorem FirstPlaced.raised (h : FirstPlaced s u js) {n : Notice} {r : Ring} (hrun : s.loader.run = .running)
    (hring : s.report.ring = some r) (hmask : r.kindMask.getLsbD n.kind.code = true) :
    raiseNotice (some .closeStep) n u = u.setReport { u.report with
      seq := (s.report.seq + 1) % 65536, items := js ++ [.notice n s.report.seq (some .closeStep)] } := by
  rw [raiseNotice_unmasked (h.loader ▸ hrun) (h.ring.trans hring) hmask, h.items, h.seq]

theorem FirstPlaced.setClosing_eq (h : FirstPlaced s u js) (v : State) (hv : v.closing = u.closing) (xs : List StepItem) :
    v.setClosing { v.closing with items := xs } = v.setClosing { s.closing with items := xs } := by
  rw [hv, h.closing]

/-! What step 4 does with its first item: an item that the report writer has to place ends the step, and one that leaves
nothing to place lets the next one follow. -/

theorem raiseDue_notice_waits {n : Notice} {xs : List StepItem} {v : State}
    (h : raiseNotice (some .closeStep) n u = v) (hg : gated .closeStep v = true) :
    raiseDue (.notice n :: xs) u = v.setClosing { v.closing with items := xs } := by
  unfold raiseDue
  rw [h]
  exact if_pos hg

theorem raiseDue_notice_passes {n : Notice} {xs : List StepItem} {v : State}
    (h : raiseNotice (some .closeStep) n u = v) (hg : gated .closeStep v = false) :
    raiseDue (.notice n :: xs) u = raiseDue xs v := by
  conv_lhs => unfold raiseDue
  rw [h]
  exact if_neg (Bool.eq_false_iff.mp hg)

theorem raiseDue_markPush {c t : Nat} {v : State} (h : pushMark c t u = v) :
    raiseDue [.markPush c t] u = v.setClosing { v.closing with items := [] } := by
  unfold raiseDue
  rw [h]
  exact ite_self _

theorem pushMark_room {c t : Nat} (h : u.out.marks.length < 8) :
    pushMark c t u = u.setOut { u.out with marks := u.out.marks ++ [t] } := if_pos h

theorem pushMark_full {c t : Nat} (h : 8 ≤ u.out.marks.length) :
    pushMark c t u = raiseNotice (some .closeStep) (u.naming .markQueueFull c t) u := if_neg (Nat.not_lt.mpr h)

end

/-- Settles O31: an entry placed lets step 4 go on to its next entry that is not masked. -/
theorem stepFourPlaced : Obligations.StepFourPlaced := by
  refine ⟨fun s u g js hlow hroom h => ?_, fun s h => ?_⟩
  · have hu := firstPlaced_of hroom h
    intro o free masked raised left
    have hraised : ∀ n, gated .closeStep (raised n u) = true := fun n =>
      gated_append .closeStep js (.notice n s.report.seq (some .closeStep)) rfl _ rfl
    have hnaming : ∀ c t, u.naming .markQueueFull c t = s.naming .markQueueFull c t := fun c t => by
      rw [State.naming, hu.tracker]
      rfl
    refine ⟨hu.waits hlow, fun a w xs hfree hitems => ?_, fun n xs r hfree hitems hrun hring hmask => ?_,
      fun n xs hfree hitems hmask => ?_, fun c t hfree hitems hroom => ?_,
      fun c t r hfree hitems hfull hrun hring hmask => ?_, fun c t hfree hitems hfull hmask => ?_⟩
    all_goals refine (hu.goesOn hlow hfree).trans ?_
    all_goals rw [hitems]
    · let v := u.setReport { u.report with items := js ++ [.post a w (some .closeStep)] }
      refine congrArg _ (Eq.trans ?_ (hu.setClosing_eq v rfl xs))
      rw [raiseDue, hu.items]
      rfl
    · exact congrArg _ ((raiseDue_notice_waits (hu.raised hrun hring hmask) (hraised n)).trans (hu.setClosing_eq (raised n u) rfl xs))
    · have hright := (hu.setItems xs).exec hlow
      refine Eq.trans (congrArg _ ?_) hright.symm
      rw [advance_free (u := u.setClosing _) (by rw [State.setClosing_report, hu.items]; exact hfree)]
      exact (raiseDue_notice_passes (hu.masked hmask) (hu.not_gated hfree)).trans (raiseDue_setItems xs xs u).symm
    · let v := u.setOut { s.out with marks := s.out.marks ++ [t] }
      have hpush : pushMark c t u = v := by
        rw [pushMark_room (hu.out ▸ hroom), hu.out]
      exact congrArg _ ((raiseDue_markPush hpush).trans (hu.setClosing_eq v rfl []))
    · have hpush : pushMark c t u = raised (s.naming .markQueueFull c t) u := by
        rw [pushMark_full (hu.out ▸ hfull), hnaming]
        exact hu.raised hrun hring hmask
      exact congrArg _ ((raiseDue_markPush hpush).trans (hu.setClosing_eq (raised _ u) rfl []))
    · have hpush : pushMark c t u = u := (pushMark_full (hu.out ▸ hfull)).trans (hu.masked hmask)
      exact congrArg _ ((raiseDue_markPush hpush).trans (hu.setClosing_eq u rfl []))
  · have hdue : publishDue s = false := by
      rw [← Bool.not_eq_true, publishDue_iff]
      rintro ⟨-, -, hnil, hnone⟩
      rcases h with h | ⟨i, hi, hg⟩
      · exact h hnil
      · exact hnone i hi hg
    change execPublish s = _
    rw [execPublish, hdue]
    simp

end Sys2Proof.Machine
end

section
/-! PROOFS. What the loader makes of a whole plan: its sections, the structural checks and the clamps (chapter 10, 11.9). -/

namespace Sys2Proof.Machine

/-! ## Where the sections lie (R154) -/

/-- The profile entries from word `i` on, each after the one before it, with `e` behind the last (R154). -/
def EntriesFrom (ws : List Word) : Nat → List Nat → Nat → Prop
  | i, [], e => e = i
  | i, j :: js, e => j = i ∧ EntriesFrom ws (i + 7 + 3 * cavityCount ws i) js e

section
variable {ws : List Word} {len n i e : Nat} {starts : List Nat}

theorem EntriesFrom.le (h : EntriesFrom ws i starts e) : i + 7 * starts.length ≤ e := by
  induction starts generalizing i with
  | nil => exact h.ge
  | cons j js ih =>
    have := ih h.2
    rw [List.length_cons]
    omega

theorem profileStarts_iff : profileStarts ws len n i = some starts ↔
    ∃ e, e ≤ len ∧ starts.length = n ∧ EntriesFrom ws i starts e := by
  induction n generalizing i starts with
  | zero =>
    unfold profileStarts
    constructor
    · intro h
      split at h
      next hi =>
        cases h
        exact ⟨i, hi, rfl, rfl⟩
      · cases h
    · rintro ⟨e, he, hlen, h⟩
      obtain rfl := List.length_eq_zero_iff.mp hlen
      obtain rfl : e = i := h
      exact if_pos he
  | succ n ih =>
    unfold profileStarts
    constructor
    · intro h
      split at h
      next hi =>
        obtain ⟨js, hjs, rfl⟩ := Option.map_eq_some_iff.mp h
        obtain ⟨e, he, hlen, hent⟩ := ih.mp hjs
        exact ⟨e, he, by rw [List.length_cons, hlen], rfl, hent⟩
      · cases h
    · rintro ⟨e, he, hlen, h⟩
      cases starts with
      | nil => cases hlen
      | cons j js =>
        obtain ⟨rfl, hent⟩ := h
        have hle := hent.le
        rw [if_pos (by omega), ih.mpr ⟨e, he, Nat.succ.inj hlen, hent⟩]
        rfl

/-- The entries follow one another exactly when each starts where the one before it ends. -/
theorem entriesFrom_iff : EntriesFrom ws i starts e ↔ (starts ++ [e])[0]? = some i ∧
    ∀ j k, starts[j]? = some k → (starts ++ [e])[j + 1]? = some (k + 7 + 3 * cavityCount ws k) := by
  induction starts generalizing i with
  | nil => simp [EntriesFrom]
  | cons x xs ih =>
    constructor
    · rintro ⟨rfl, h⟩
      obtain ⟨hhead, hnext⟩ := ih.mp h
      refine ⟨rfl, fun j k hk => ?_⟩
      cases j with
      | zero =>
        obtain rfl : x = k := Option.some.inj hk
        exact hhead
      | succ j => exact hnext j k hk
    · rintro ⟨hhead, hnext⟩
      obtain rfl : x = i := Option.some.inj hhead
      exact ⟨rfl, ih.mpr ⟨hnext 0 x rfl, fun j k hk => hnext (j + 1) k hk⟩⟩

/-- The sections end within the length exactly when the last entry does. -/
theorem planSections_iff : planSections ws len = some starts ↔
    ∃ e, e ≤ len ∧ starts.length = profileCount ws ∧ EntriesFrom ws (profilesAt ws) starts e := by
  unfold planSections
  constructor
  · intro h
    split at h
    · exact profileStarts_iff.mp h
    · cases h
  · rintro ⟨e, he, hlen, h⟩
    have hle := h.le
    have hguard : (11 ≤ len && channelsAt ws < len) = true := by
      rw [Bool.and_eq_true, decide_eq_true_iff, decide_eq_true_iff]
      unfold profilesAt channelsAt at hle
      unfold channelsAt
      omega
    rw [if_pos hguard]
    exact profileStarts_iff.mpr ⟨e, he, hlen, h⟩

end

/-! ## Lists without repetition and areas apart -/

theorem distinct_iff (xs : List Nat) : distinct xs = true ↔ xs.Nodup := by
  induction xs with
  | nil => simp [distinct]
  | cons x xs ih => rw [distinct, Bool.and_eq_true, ih, List.nodup_cons, Bool.not_eq_true', ← Bool.not_eq_true,
      List.contains_iff_mem]

theorem overlaps_eq_false_iff_apart {x y : Nat × Nat} (hx : 0 < x.2) (hy : 0 < y.2) :
    overlaps x.1 x.2 y.1 y.2 = false ↔ apart x y := overlaps_eq_false_iff hx hy

theorem someOverlap_eq_false_iff {xs : List (Nat × Nat)} (h : ∀ x ∈ xs, 0 < x.2) :
    someOverlap xs = false ↔ xs.Pairwise apart := by
  induction xs with
  | nil => simp [someOverlap]
  | cons x xs ih =>
    obtain ⟨hx, hxs⟩ := List.forall_mem_cons.mp h
    rw [someOverlap, Bool.or_eq_false_iff, ih hxs, List.pairwise_cons, List.any_eq_false]
    refine and_congr_left' (forall₂_congr fun y hy => ?_)
    rw [Bool.not_eq_true]
    exact overlaps_eq_false_iff_apart hx (hxs y hy)

theorem areaOk_iff (a n : Nat) : areaOk a n = true ↔ a % 4 = 0 ∧ a + n ≤ 2 ^ 24 := by
  rw [areaOk, Bool.and_eq_true, decide_eq_true_iff, decide_eq_true_iff]
  exact Iff.rfl

theorem within_iff (a b x : Nat) : within a b x = true ↔ a ≤ x ∧ x ≤ b := by
  rw [within, Bool.and_eq_true, decide_eq_true_iff, decide_eq_true_iff]

/-! ## Checks 3 to 8 (R147) -/

theorem ringBytes_pos {w : WindowPlan} (h : 1 ≤ w.frames) : 0 < w.ringBytes := by
  rw [WindowPlan.ringBytes, WindowPlan.frameWords]
  exact Nat.mul_pos (by omega) h

section
variable {ws : List Word} {base : Nat} {p : Plan} {starts : List Nat}

theorem windowCodesOk_iff (i : Nat) : windowCodesOk ws i = true ↔
    (ws.getD (i + 2) 0).toNat % 4 = 2 ∨ ((ws.getD (i + 2) 0).toNat % 4 = 1 ∧
      ((ws.getD (i + 2) 0).toNat / 2 ^ 8 % 4 = 1 ∨ (ws.getD (i + 2) 0).toNat / 2 ^ 8 % 4 = 2)) := by
  simp only [windowCodesOk, planWord, bitsAt_eq, pow_zero, Nat.div_one, Bool.or_eq_true, Bool.and_eq_true,
    decide_eq_true_iff]
  exact Iff.rfl

theorem apart_comm (x y : Nat × Nat) : apart x y ↔ apart y x := or_comm

/-- Check 3 asks of the window entries that they fit and have listed codes. -/
theorem windowsOk_iff (hn : p.windows.length = windowCount ws) :
    windowsOk ws base p = true ↔ p.WindowsFit base ∧ windowCodes ws := by
  have hfields : (p.windows.all fun w => within 1 16 w.scans && within 1 16 w.chans.length && within 1 4096 w.frames
      && areaOk w.base w.ringBytes) = true ↔ (∀ w ∈ p.windows, 1 ≤ w.scans ∧ w.scans ≤ 16 ∧ 1 ≤ w.chans.length ∧
        w.chans.length ≤ 16 ∧ 1 ≤ w.frames ∧ w.frames ≤ 4096) ∧
      ∀ w ∈ p.windows, w.base % 4 = 0 ∧ w.base + w.ringBytes ≤ 2 ^ 24 := by
    simp only [List.all_eq_true, Bool.and_eq_true, within_iff, areaOk_iff, and_assoc]
    exact ⟨fun h => ⟨fun w hw => (by obtain ⟨a, b, c, d, e, f, -⟩ := h w hw; exact ⟨a, b, c, d, e, f⟩),
      fun w hw => (by obtain ⟨-, -, -, -, -, -, g⟩ := h w hw; exact g)⟩,
      fun ⟨h, g⟩ w hw => (by obtain ⟨a, b, c, d, e, f⟩ := h w hw; exact ⟨a, b, c, d, e, f, g w hw⟩)⟩
  have hcodes : ((List.range p.windows.length).all fun j => windowCodesOk ws (11 + 7 * j)) = true ↔ windowCodes ws := by
    simp only [List.all_eq_true, List.mem_range, hn, windowCodesOk_iff, show ∀ j, 11 + 7 * j + 2 = 13 + 7 * j by omega]
    exact Iff.rfl
  have hoverlap : (∀ w ∈ p.windows, 1 ≤ w.frames) → (someOverlap ((base, Config.anchorBytes) :: p.rings) = false ↔
      (∀ w ∈ p.windows, apart (w.base, w.ringBytes) (base, 0x2400)) ∧
        p.windows.Pairwise fun v w => apart (v.base, v.ringBytes) (w.base, w.ringBytes)) := by
    intro hframes
    have hpos : ∀ x ∈ (base, Config.anchorBytes) :: p.rings, 0 < x.2 := by
      simp only [Plan.rings, List.forall_mem_cons, List.forall_mem_map]
      exact ⟨by decide, fun w hw => ringBytes_pos (hframes w hw)⟩
    rw [someOverlap_eq_false_iff hpos, List.pairwise_cons, Plan.rings, List.forall_mem_map, List.pairwise_map]
    exact and_congr_left' (forall₂_congr fun w _ => apart_comm _ _)
  simp only [windowsOk, Bool.and_eq_true, Bool.not_eq_true', within_iff, hfields, hcodes]
  constructor
  · rintro ⟨⟨⟨hcount, hf, ha⟩, hc⟩, ho⟩
    obtain ⟨hanchor, hsep⟩ := (hoverlap fun w hw => (hf w hw).2.2.2.2.1).mp ho
    exact ⟨⟨hcount, hf, fun w hw => ⟨(ha w hw).1, (ha w hw).2, hanchor w hw⟩, hsep⟩, hc⟩
  · rintro ⟨h, hc⟩
    refine ⟨⟨⟨h.count, h.fields, fun w hw => ?_⟩, hc⟩, (hoverlap fun w hw => (h.fields w hw).2.2.2.2.1).mpr
      ⟨fun w hw => ?_, h.separate⟩⟩
    · obtain ⟨h1, h2, -⟩ := h.rings w hw
      exact ⟨h1, h2⟩
    · exact (h.rings w hw).2.2

theorem kind_ofCode_isSome (n : Nat) : (ChannelKind.ofCode n).isSome = true ↔ 1 ≤ n ∧ n ≤ 3 := by
  match n with
  | 0 => decide
  | 1 => decide
  | 2 => decide
  | 3 => decide
  | n + 4 =>
    have : ChannelKind.ofCode (n + 4) = none := rfl
    simp [this]

/-- Check 4 asks that the channel section and the channel lists name the same channels, once each, with listed kinds. -/
theorem channelsOk_iff (hn : p.channels.length = channelCount ws) :
    channelsOk ws p = true ↔ p.ChannelsFit ∧ channelCodes ws := by
  have hcodes : ((List.range p.channels.length).all fun j =>
      (ChannelKind.ofCode (bitsAt (planWord ws (channelsAt ws + 1 + 4 * j)) 8 8)).isSome) = true ↔ channelCodes ws := by
    simp only [List.all_eq_true, List.mem_range, hn, kind_ofCode_isSome, bitsAt_eq, planWord, channelsAt,
      show ∀ j, 11 + 7 * windowCount ws + 1 + 4 * j = 12 + 7 * windowCount ws + 4 * j by omega]
    exact Iff.rfl
  simp only [channelsOk, Bool.and_eq_true, within_iff, distinct_iff, List.length_map, hcodes]
  simp only [List.all_eq_true, Bool.and_eq_true, decide_eq_true_iff, List.contains_iff_mem, Plan.listed]
  constructor
  · rintro ⟨⟨⟨⟨⟨hcount, hnum⟩, hlist⟩, hd⟩, hl⟩, hc⟩
    exact ⟨⟨hcount, fun c hmem => (hnum _ (List.mem_map_of_mem hmem)).1, hd, hl,
      fun n => ⟨fun h => (hnum n h).2, fun h => (hlist n h).2⟩⟩, hc⟩
  · rintro ⟨h, hc⟩
    have hlt : ∀ n ∈ p.channels.map fun c => c.number, n < 64 := by
      rw [List.forall_mem_map]
      exact h.numbers
    exact ⟨⟨⟨⟨⟨h.count, fun n hmem => ⟨hlt n hmem, (h.same n).mp hmem⟩⟩,
      fun n hmem => ⟨hlt n ((h.same n).mpr hmem), (h.same n).mpr hmem⟩⟩, h.defined⟩, h.listed⟩, hc⟩

/-- Check 5 asks of the profile entries that they fit and have listed record codes. -/
theorem profilesOk_iff : profilesOk ws starts p = true ↔ p.ProfilesFit ∧ profileCodes ws starts := by
  have hcodes : starts.all (profileCodesOk ws) = true ↔ profileCodes ws starts := by
    simp only [List.all_eq_true, profileCodesOk, bitsAt_eq, pow_zero, Nat.div_one, Bool.and_eq_true, decide_eq_true_iff,
      planWord]
    exact Iff.rfl
  simp only [profilesOk, Bool.and_eq_true, within_iff, distinct_iff, hcodes]
  simp only [List.all_eq_true, Bool.and_eq_true, decide_eq_true_iff, within_iff]
  constructor
  · rintro ⟨⟨⟨hcount, hm⟩, hf⟩, hc⟩
    refine ⟨⟨hcount, hm, fun q hq => ?_⟩, hc⟩
    obtain ⟨⟨⟨⟨⟨⟨h1, h2⟩, h3⟩, h4⟩, h5⟩, h6, h7⟩, h8, h9⟩ := hf q hq
    exact ⟨h1, h2, h5, h3, h4, h6, h7, h8, h9⟩
  · rintro ⟨h, hc⟩
    refine ⟨⟨⟨h.count, h.moulds⟩, fun q hq => ?_⟩, hc⟩
    obtain ⟨h1, h2, h5, h3, h4, h6, h7, h8, h9⟩ := h.fields q hq
    exact ⟨⟨⟨⟨⟨⟨h1, h2⟩, h3⟩, h4⟩, h5⟩, h6, h7⟩, h8, h9⟩

/-- Check 6 asks of every profile's cavity table that it fits. -/
theorem cavitiesOk_iff : p.profiles.all (cavitiesOk p) = true ↔ p.CavitiesFit := by
  have hslots : ∀ c : CavityPlan, (slots4.all fun k => !c.has k || p.listed.contains (c.chan k)) = true ↔
      ∀ k : Fin 4, c.has k = true → c.chan k ∈ p.listed := by
    intro c
    simp only [List.all_eq_true, Bool.or_eq_true, Bool.not_eq_true', List.contains_iff_mem, ← Bool.not_eq_true, ← imp_iff_not_or]
    exact ⟨fun h k => h k (by fin_cases k <;> simp [slots4]), fun h k _ => h k⟩
  have hformat : ∀ (q : ProfilePlan) (c : CavityPlan), (q.recordFormat == .short || areaOk c.longAddr 64) = true ↔
      (q.recordFormat = .long → c.longAddr % 4 = 0 ∧ c.longAddr + 64 ≤ 2 ^ 24) := by
    intro q c
    rw [Bool.or_eq_true, areaOk_iff]
    cases q.recordFormat <;> simp
  simp only [List.all_eq_true, cavitiesOk, Bool.and_eq_true, hformat, hslots, decide_eq_true_iff, List.mem_range,
    List.countP_eq_length_filter]
  constructor
  · intro h
    refine ⟨fun q hq c hc => ((h q hq).1 c hc).1.1, fun q hq c hc => ((h q hq).1 c hc).1.2, fun q hq g => ?_,
      fun q hq hl c hc => ((h q hq).1 c hc).2 hl⟩
    by_cases hg : g < q.groups
    · exact (h q hq).2 g hg
    · have hnone : (q.cavities.filter fun c => c.group == g) = [] := by
        rw [List.filter_eq_nil_iff]
        intro c hc heq
        have := ((h q hq).1 c hc).1.2
        rw [beq_iff_eq] at heq
        omega
      rw [hnone]
      decide
  · intro h q hq
    exact ⟨fun c hc => ⟨⟨h.slots q hq c hc, h.groups q hq c hc⟩, fun hl => h.long q hq hl c hc⟩, fun g _ => h.sizes q hq g⟩

/-- Check 7 asks that the notice ring fits. -/
theorem ringOk_iff : ringOk p = true ↔ p.RingFits := by
  rw [ringOk, Bool.and_eq_true, List.contains_iff_mem, areaOk_iff]
  exact ⟨fun ⟨h1, h2⟩ => ⟨h1, h2⟩, fun h => ⟨h.size, h.place⟩⟩

theorem recordAreas_eq (q : ProfilePlan) : q.recordAreas =
    if q.recordFormat = .short then [(q.recordOrigin, 32 * q.cavities.length)]
    else q.cavities.map fun c => (c.longAddr, 64) := by
  unfold ProfilePlan.recordAreas
  cases q.recordFormat <;> rfl

/-- The areas of check 8 are not empty, given the checks before it. -/
theorem areas_pos (hp : p.ProfilesFit) (hr : p.RingFits) : ∀ x ∈ p.areas, 0 < x.2 := by
  have hsize : ∀ n ∈ [16, 32, 64, 128, 256, 512, 1024], 0 < 16 * n := by decide
  have hrecords : ∀ q ∈ p.profiles, ∀ x ∈ (if q.recordFormat = .short then [(q.recordOrigin, 32 * q.cavities.length)]
      else q.cavities.map fun c => (c.longAddr, 64)), 0 < x.2 := by
    intro q hq x hx
    obtain ⟨-, -, -, -, -, hcav, -⟩ := hp.fields q hq
    split at hx
    · rw [List.mem_singleton.mp hx]
      exact Nat.mul_pos (by decide) hcav
    · obtain ⟨c, -, rfl⟩ := List.mem_map.mp hx
      exact (by decide : 0 < 64)
  simp only [Plan.areas, List.forall_mem_cons]
  refine ⟨by decide, hsize _ hr.size, fun x hx => ?_⟩
  obtain ⟨q, hq, hx⟩ := List.mem_flatMap.mp hx
  exact hrecords q hq x hx

/-- Check 8 asks that the state word, the notice ring and the records lie in memory, and apart from one another and from the
anchor region and the capture rings. -/
theorem addressesOk_iff (hw : p.WindowsFit base) (hp : p.ProfilesFit) (hr : p.RingFits) :
    addressesOk base p = true ↔ p.AddressesFit base := by
  have hown : (p.stateWordAddr, 4) :: (p.ringBase, 16 * p.ringSize) :: p.profiles.flatMap ProfilePlan.recordAreas = p.areas := by
    rw [Plan.areas, funext recordAreas_eq]
  have hpos := areas_pos hp hr
  have hformat : ∀ q : ProfilePlan, (q.recordFormat == .long || areaOk q.recordOrigin (32 * q.cavities.length)) = true ↔
      (q.recordFormat = .short → q.recordOrigin % 4 = 0 ∧ q.recordOrigin + 32 * q.cavities.length ≤ 2 ^ 24) := by
    intro q
    rw [Bool.or_eq_true, areaOk_iff]
    cases q.recordFormat <;> simp
  have hclear : (p.areas.any fun a => ((base, Config.anchorBytes) :: p.rings).any fun b => overlaps a.1 a.2 b.1 b.2) = false ↔
      ∀ x ∈ p.areas, apart x (base, 0x2400) ∧ ∀ w ∈ p.windows, apart x (w.base, w.ringBytes) := by
    rw [List.any_eq_false]
    refine forall₂_congr fun x hx => ?_
    rw [Bool.not_eq_true, List.any_eq_false, List.forall_mem_cons, Plan.rings, List.forall_mem_map, Bool.not_eq_true,
      overlaps_eq_false_iff_apart (hpos x hx) (show 0 < Config.anchorBytes by decide)]
    refine and_congr_right' (forall₂_congr fun w hmem => ?_)
    obtain ⟨-, -, -, -, hframes, -⟩ := hw.fields w hmem
    rw [Bool.not_eq_true]
    exact overlaps_eq_false_iff_apart (y := (w.base, w.ringBytes)) (hpos x hx) (ringBytes_pos hframes)
  unfold addressesOk
  simp only [hown, Bool.and_eq_true, Bool.not_eq_true', List.all_eq_true, hformat, someOverlap_eq_false_iff hpos, hclear,
    decide_eq_true_iff]
  exact ⟨fun ⟨⟨⟨h1, h2⟩, h3⟩, h4⟩ => ⟨h1, h2, h3, h4⟩, fun h => ⟨⟨⟨h.stateWord, h.records⟩, h.separate⟩, h.clear⟩⟩

end

/-! ## The clamps (R148) -/

theorem clampNat_eq_nearest {a b : Nat} (h : a ≤ b) (x : Nat) : clampNat a b x = nearest a b x := by
  unfold clampNat nearest
  split
  · omega
  · split <;> omega

theorem clampChannel_eq (c : ChannelPlan) : (clampChannel c).1 =
    { c with
      nmin := nearest 16 65535 c.nmin, clipLimit := nearest 0 65535 c.clipLimit, th := nearest 1 32767 c.th
      hdt := nearest 1 4096 c.hdt, hlt := nearest 0 65535 c.hlt, dmin := nearest 1 4096 c.dmin } := by
  simp only [clampChannel, clampCount, clampNat_eq_nearest (show 16 ≤ 65535 by decide),
    clampNat_eq_nearest (show 0 ≤ 65535 by decide), clampNat_eq_nearest (show 1 ≤ 32767 by decide),
    clampNat_eq_nearest (show 1 ≤ 4096 by decide)]

theorem clampProfile_eq (q : ProfilePlan) : (clampProfile q).1 =
    { q with
      xd := nearest 0 4095 q.xd, hitWeight := nearest 1 15 q.hitWeight, d := nearest 1 8 q.d, w := nearest 2 8 q.w
      confirmations := nearest 1 7 q.confirmations, delay := nearest 1 7 q.delay } := by
  simp only [clampProfile, clampCount, clampNat_eq_nearest (show 0 ≤ 4095 by decide),
    clampNat_eq_nearest (show 1 ≤ 15 by decide), clampNat_eq_nearest (show 1 ≤ 8 by decide),
    clampNat_eq_nearest (show 2 ≤ 8 by decide), clampNat_eq_nearest (show 1 ≤ 7 by decide)]

theorem clampPlan_fst (p : Plan) : (clampPlan p).1 = p.tuned := by
  simp only [clampPlan, Plan.tuned, clampCount, List.map_map, Function.comp_def, clampChannel_eq, clampProfile_eq,
    clampNat_eq_nearest (show 100 ≤ 30000 by decide), clampNat_eq_nearest (show 5 ≤ 1000 by decide),
    clampNat_eq_nearest (show 0 ≤ 255 by decide), clampNat_eq_nearest (show 0 ≤ 3 by decide)]

/-- At how many places two lists differ. -/
def changes (xs ys : List Nat) : Nat := (xs.zip ys).countP fun x => x.1 != x.2

theorem changes_cons (x y : Nat) (xs ys : List Nat) :
    changes (x :: xs) (y :: ys) = changes xs ys + if y = x then 0 else 1 := by
  rw [changes, List.zip_cons_cons, List.countP_cons, changes]
  by_cases h : y = x
  · simp [h]
  · simp [h, Ne.symm h]

theorem changes_append {xs ys : List Nat} (h : xs.length = ys.length) (as bs : List Nat) :
    changes (xs ++ as) (ys ++ bs) = changes xs ys + changes as bs := by
  rw [changes, List.zip_append h, List.countP_append]
  rfl

/-- The values of each item change by themselves. -/
theorem changes_flatMap {α : Type} {f : α → List Nat} {g : α → α} {n : Nat} (hf : ∀ x, (f x).length = n) (xs : List α) :
    changes (xs.flatMap f) ((xs.map g).flatMap f) = (xs.map fun x => changes (f x) (f (g x))).sum := by
  induction xs with
  | nil => rfl
  | cons x xs ih =>
    rw [List.map_cons, List.flatMap_cons, List.flatMap_cons, changes_append ((hf x).trans (hf (g x)).symm), ih, List.map_cons,
      List.sum_cons]

/-- The tuning values of a channel entry (R148). -/
def ChannelPlan.values (c : ChannelPlan) : List Nat := [c.nmin, c.clipLimit, c.th, c.hdt, c.hlt, c.dmin]

/-- The tuning values of a profile entry (R148). -/
def ProfilePlan.values (q : ProfilePlan) : List Nat := [q.xd, q.hitWeight, q.d, q.w, q.confirmations, q.delay]

theorem changes_nil : changes [] [] = 0 := rfl

theorem clampChannel_snd (c : ChannelPlan) : (clampChannel c).2 = changes c.values (clampChannel c).1.values := by
  simp only [clampChannel, ChannelPlan.values, changes_cons, changes_nil, clampCount]
  omega

theorem clampProfile_snd (q : ProfilePlan) : (clampProfile q).2 = changes q.values (clampProfile q).1.values := by
  simp only [clampProfile, ProfilePlan.values, changes_cons, changes_nil, clampCount]
  omega

/-- The clamped-value count is the number of values that the clamps changed, saturated. -/
theorem clampPlan_snd (p : Plan) : (clampPlan p).2 = min 65535 (changes p.values p.tuned.values) := by
  have hchannels : (p.channels.map fun c => (clampChannel c).2).sum
      = changes (p.channels.flatMap ChannelPlan.values) ((p.channels.map fun c => (clampChannel c).1).flatMap ChannelPlan.values) := by
    rw [changes_flatMap (n := 6) (fun _ => rfl)]
    exact congrArg List.sum (List.map_congr_left fun c _ => clampChannel_snd c)
  have hprofiles : (p.profiles.map fun q => (clampProfile q).2).sum
      = changes (p.profiles.flatMap ProfilePlan.values) ((p.profiles.map fun q => (clampProfile q).1).flatMap ProfilePlan.values) := by
    rw [changes_flatMap (n := 6) (fun _ => rfl)]
    exact congrArg List.sum (List.map_congr_left fun q _ => clampProfile_snd q)
  have hlength : ∀ (xs : List ChannelPlan), (xs.flatMap ChannelPlan.values).length = 6 * xs.length :=
    flatMap_length_of_const fun _ => rfl
  have hvalues : ∀ r : Plan, r.values = [r.windowLimit, r.silenceLimit, r.pulseW, r.pulseP] ++
      r.channels.flatMap ChannelPlan.values ++ r.profiles.flatMap ProfilePlan.values := fun _ => rfl
  have htuned := clampPlan_fst p
  rw [← htuned, hvalues, hvalues, changes_append (by
      simp only [List.length_append, hlength]
      simp [clampPlan]), changes_append (show [p.windowLimit, p.silenceLimit, p.pulseW, p.pulseP].length =
        [(clampPlan p).1.windowLimit, (clampPlan p).1.silenceLimit, (clampPlan p).1.pulseW, (clampPlan p).1.pulseP].length
        from rfl)]
  simp only [clampPlan, changes_cons, changes_nil, clampCount, List.map_map, Function.comp_def, hchannels, hprofiles]
  omega

/-! ## The judgement (R147, R148) -/

section
variable {ws : List Word} {len base : Nat} {starts : List Nat}

theorem judgePlan_noSections (h : planSections ws len = none) : judgePlan ws len base = .error .length := by
  rw [judgePlan, h]

theorem judgePlan_fault {f : PlanFault} (h : planSections ws len = some starts)
    (hf : structuralFault ws base starts (readPlan ws starts) = f) (hne : f ≠ .none) : judgePlan ws len base = .error f := by
  rw [judgePlan, h]
  dsimp only
  split
  next hn => exact absurd (hf.symm.trans hn) hne
  next => rw [hf]

theorem judgePlan_accepts (h : planSections ws len = some starts)
    (hf : structuralFault ws base starts (readPlan ws starts) = .none) :
    judgePlan ws len base = .ok (clampPlan (readPlan ws starts)) := by
  rw [judgePlan, h]
  dsimp only
  rw [hf]

theorem readPlan_lengths (ws : List Word) (starts : List Nat) :
    (readPlan ws starts).windows.length = windowCount ws ∧ (readPlan ws starts).channels.length = channelCount ws := by
  simp [readPlan]

end

/-- The plan that a plan judged by the loader becomes (R147, R148). -/
theorem judgePlan_fits {ws : List Word} {len base k : Nat} {pl : Plan} (h : judgePlan ws len base = .ok (pl, k)) :
    ∃ p : Plan, p.WindowsFit base ∧ p.ChannelsFit ∧ p.ProfilesFit ∧ p.CavitiesFit ∧ p.RingFits ∧ p.AddressesFit base ∧
      pl = p.tuned ∧ k ≤ 65535 := by
  obtain ⟨starts, -, hf, hpl⟩ := judgePlan_ok h
  obtain ⟨hw, hc, hp, hv, hr, ha⟩ := structuralFault_none hf
  obtain ⟨hlw, hlc⟩ := readPlan_lengths ws starts
  obtain ⟨hw, -⟩ := (windowsOk_iff hlw).mp hw
  obtain ⟨hc, -⟩ := (channelsOk_iff hlc).mp hc
  obtain ⟨hp, -⟩ := profilesOk_iff.mp hp
  have hr := ringOk_iff.mp hr
  have hpl1 : pl = (clampPlan (readPlan ws starts)).1 := congrArg Prod.fst hpl
  have hpl2 : k = (clampPlan (readPlan ws starts)).2 := congrArg Prod.snd hpl
  refine ⟨readPlan ws starts, hw, hc, hp, cavitiesOk_iff.mp hv, hr, (addressesOk_iff hw hp hr).mp ha,
    hpl1.trans (clampPlan_fst _), ?_⟩
  rw [hpl2, clampPlan_snd]
  exact Nat.min_le_left _ _

/-! ## Tuning leaves the structure of a plan (R148) -/

section
variable {p : Plan} {base : Nat}

theorem nearest_range {a b : Nat} (h : a ≤ b) (x : Nat) : a ≤ nearest a b x ∧ nearest a b x ≤ b := by
  unfold nearest
  omega

theorem tuned_windowsFit (h : p.WindowsFit base) : p.tuned.WindowsFit base := ⟨h.count, h.fields, h.rings, h.separate⟩

theorem tuned_numbers (p : Plan) : (p.tuned.channels.map fun c => c.number) = p.channels.map fun c => c.number := by
  simp only [Plan.tuned, List.map_map, Function.comp_def]

theorem tuned_channelsFit (h : p.ChannelsFit) : p.tuned.ChannelsFit where
  count := by
    simp only [Plan.tuned, List.length_map]
    exact h.count
  numbers := by
    simp only [Plan.tuned, List.forall_mem_map]
    exact h.numbers
  defined := by
    rw [tuned_numbers]
    exact h.defined
  listed := h.listed
  same := by
    rw [tuned_numbers]
    exact h.same

theorem tuned_profilesFit (h : p.ProfilesFit) : p.tuned.ProfilesFit where
  count := by
    simp only [Plan.tuned, List.length_map]
    exact h.count
  moulds := by
    simp only [Plan.tuned, List.map_map, Function.comp_def]
    exact h.moulds
  fields := by
    simp only [Plan.tuned, List.forall_mem_map]
    exact h.fields

theorem tuned_cavitiesFit (h : p.CavitiesFit) : p.tuned.CavitiesFit where
  slots := by
    simp only [Plan.tuned, List.forall_mem_map]
    exact h.slots
  groups := by
    simp only [Plan.tuned, List.forall_mem_map]
    exact h.groups
  sizes := by
    simp only [Plan.tuned, List.forall_mem_map]
    exact h.sizes
  long := by
    simp only [Plan.tuned, List.forall_mem_map]
    exact h.long

theorem tuned_ringFits (h : p.RingFits) : p.tuned.RingFits := ⟨h.size, h.place⟩

theorem tuned_areas (p : Plan) : p.tuned.areas = p.areas := by
  simp only [Plan.areas, Plan.tuned, List.flatMap_map]

theorem tuned_addressesFit (h : p.AddressesFit base) : p.tuned.AddressesFit base where
  stateWord := h.stateWord
  records := by
    simp only [Plan.tuned, List.forall_mem_map]
    exact h.records
  separate := by
    rw [tuned_areas]
    exact h.separate
  clear := by
    rw [tuned_areas]
    exact h.clear

theorem tuned_channel_ranges (p : Plan) : ∀ c ∈ p.tuned.channels, 16 ≤ c.nmin ∧ c.nmin ≤ 65535 ∧ c.clipLimit ≤ 65535 ∧
    1 ≤ c.th ∧ c.th ≤ 32767 ∧ 1 ≤ c.hdt ∧ c.hdt ≤ 4096 ∧ c.hlt ≤ 65535 ∧ 1 ≤ c.dmin ∧ c.dmin ≤ 4096 := by
  simp only [Plan.tuned, List.forall_mem_map]
  intro c _
  obtain ⟨h1, h2⟩ := nearest_range (show 16 ≤ 65535 by decide) c.nmin
  obtain ⟨h3, h4⟩ := nearest_range (show 1 ≤ 32767 by decide) c.th
  obtain ⟨h5, h6⟩ := nearest_range (show 1 ≤ 4096 by decide) c.hdt
  obtain ⟨h7, h8⟩ := nearest_range (show 1 ≤ 4096 by decide) c.dmin
  exact ⟨h1, h2, (nearest_range (Nat.zero_le _) _).2, h3, h4, h5, h6, (nearest_range (Nat.zero_le _) _).2, h7, h8⟩

theorem tuned_profile_ranges (p : Plan) : ∀ q ∈ p.tuned.profiles, q.xd ≤ 4095 ∧ 1 ≤ q.hitWeight ∧ q.hitWeight ≤ 15 ∧
    1 ≤ q.d ∧ q.d ≤ 8 ∧ 2 ≤ q.w ∧ q.w ≤ 8 ∧ 1 ≤ q.confirmations ∧ q.confirmations ≤ 7 ∧ 1 ≤ q.delay ∧ q.delay ≤ 7 := by
  simp only [Plan.tuned, List.forall_mem_map]
  intro q _
  obtain ⟨h1, h2⟩ := nearest_range (show 1 ≤ 15 by decide) q.hitWeight
  obtain ⟨h3, h4⟩ := nearest_range (show 1 ≤ 8 by decide) q.d
  obtain ⟨h5, h6⟩ := nearest_range (show 2 ≤ 8 by decide) q.w
  obtain ⟨h7, h8⟩ := nearest_range (show 1 ≤ 7 by decide) q.confirmations
  obtain ⟨h9, h10⟩ := nearest_range (show 1 ≤ 7 by decide) q.delay
  exact ⟨(nearest_range (Nat.zero_le _) _).2, h1, h2, h3, h4, h5, h6, h7, h8, h9, h10⟩

end

/-- Settles O53: an accepted plan has passed the checks, and its tuning values are clamped. -/
theorem acceptedPlanInRange : Obligations.AcceptedPlanInRange := by
  intro ws n base k pl h
  obtain ⟨p, hw, hc, hp, hv, hr, ha, rfl, hk⟩ := judgePlan_fits h
  obtain ⟨h1, h2⟩ := nearest_range (show 100 ≤ 30000 by decide) p.windowLimit
  obtain ⟨h3, h4⟩ := nearest_range (show 5 ≤ 1000 by decide) p.silenceLimit
  exact ⟨hk, tuned_windowsFit hw, tuned_channelsFit hc, tuned_profilesFit hp, tuned_cavitiesFit hv, tuned_ringFits hr,
    tuned_addressesFit ha, h1, h2, h3, h4, (nearest_range (Nat.zero_le _) _).2, (nearest_range (Nat.zero_le _) _).2,
    tuned_channel_ranges p, tuned_profile_ranges p⟩

/-- Settles O52: the sections, the checks in their order, and the clamps. -/
theorem planJudged : Obligations.PlanJudged := by
  refine ⟨fun ws len starts => ?_, fun ws len base => ⟨judgePlan_noSections, fun starts hs => ?_⟩⟩
  · intro f windows channels
    have hwindows : windowCount ws = windows := bitsAt_zero _ _
    have hchannels : channelCount ws = channels := by
      rw [channelCount, channelsAt, hwindows]
      exact bitsAt_zero _ _
    have hprofiles : profileCount ws = f 4 / 2 ^ 4 % 8 := bitsAt_eq _ _ _
    have hcavities : ∀ i, cavityCount ws i = f i / 2 ^ 8 % 2 ^ 8 := fun i => bitsAt_eq _ _ _
    rw [planSections_iff]
    refine exists_congr fun e => and_congr_right' (and_congr ?_ ?_)
    · rw [hprofiles, List.length_append, List.length_singleton]
      exact Nat.succ_inj.symm
    · rw [entriesFrom_iff, profilesAt, channelsAt, hwindows, hchannels]
      simp only [hcavities]
  · intro p windowsFit channelsFit profilesFit
    obtain ⟨hlw, hlc⟩ := readPlan_lengths ws starts
    have hwindows : windowsOk ws base p = true ↔ windowsFit := windowsOk_iff hlw
    have hchannels : channelsOk ws p = true ↔ channelsFit := channelsOk_iff hlc
    have hprofiles : profilesOk ws starts p = true ↔ profilesFit := profilesOk_iff
    have hcavities : p.profiles.all (cavitiesOk p) = true ↔ p.CavitiesFit := cavitiesOk_iff
    have hring : ringOk p = true ↔ p.RingFits := ringOk_iff
    have haddresses : windowsFit → profilesFit → p.RingFits → (addressesOk base p = true ↔ p.AddressesFit base) :=
      fun hw hp hr => addressesOk_iff hw.1 hp.1 hr
    refine ⟨fun hw => judgePlan_fault hs ?_ (by decide), fun hw hc => judgePlan_fault hs ?_ (by decide),
      fun hw hc hp => judgePlan_fault hs ?_ (by decide), fun hw hc hp hv => judgePlan_fault hs ?_ (by decide),
      fun hw hc hp hv hr => judgePlan_fault hs ?_ (by decide), fun hw hc hp hv hr ha => judgePlan_fault hs ?_ (by decide),
      fun hw hc hp hv hr ha => ?_⟩
    · rw [structuralFault, Bool.eq_false_iff.mpr (mt hwindows.mp hw)]
      rfl
    · rw [structuralFault, hwindows.mpr hw, Bool.eq_false_iff.mpr (mt hchannels.mp hc)]
      rfl
    · rw [structuralFault, hwindows.mpr hw, hchannels.mpr hc, Bool.eq_false_iff.mpr (mt hprofiles.mp hp)]
      rfl
    · rw [structuralFault, hwindows.mpr hw, hchannels.mpr hc, hprofiles.mpr hp, Bool.eq_false_iff.mpr (mt hcavities.mp hv)]
      rfl
    · rw [structuralFault, hwindows.mpr hw, hchannels.mpr hc, hprofiles.mpr hp, hcavities.mpr hv,
        Bool.eq_false_iff.mpr (mt hring.mp hr)]
      rfl
    · rw [structuralFault, hwindows.mpr hw, hchannels.mpr hc, hprofiles.mpr hp, hcavities.mpr hv, hring.mpr hr,
        Bool.eq_false_iff.mpr (mt (haddresses hw hp hr).mp ha)]
      rfl
    · have hnone : structuralFault ws base starts p = .none := by
        rw [structuralFault, hwindows.mpr hw, hchannels.mpr hc, hprofiles.mpr hp, hcavities.mpr hv, hring.mpr hr,
          (haddresses hw hp hr).mpr ha]
        rfl
      rw [judgePlan_accepts hs hnone]
      exact congrArg _ (Prod.ext (clampPlan_fst p) (clampPlan_snd p))

end Sys2Proof.Machine
end

section
/-! PROOFS. How a load goes on with its last header word and with its last word (chapter 10). -/

namespace Sys2Proof.Machine

/-! ## A load that fails (R146, R147, R151) -/

/-- The loader once a load has failed with fault `f` (R147). -/
def State.loadFailed (f : PlanFault) (s : State) : State :=
  s.setLoader { s.loader with run := .noPlan, fault := f, retry := some 0, phase := .idle, buf := [], items := [] }

section
variable {s : State} {a : Nat} {q : List Entry}

theorem failLoad_held (f : PlanFault) (s : State) : (failLoad f s).path.held = s.path.held := by
  unfold failLoad
  simp only
  split <;> rfl

theorem failLoad_own (f : PlanFault) (h : ∀ w, s.mail.work = some w → w.phase ≠ .loading) :
    failLoad f s = s.loadFailed f := by
  have hno : workPhaseIs .loading (s.loadFailed f) = false := by
    unfold workPhaseIs
    cases hw : s.mail.work with
    | none => simp [State.loadFailed, hw]
    | some w => simpa [State.loadFailed, hw] using h w hw
  exact if_neg (Bool.eq_false_iff.mp hno)

theorem failLoad_reload (f : PlanFault) {g : Fn} {args : List Nat}
    (h : s.mail.work = some { fn := g, args := args, phase := .loading }) :
    failLoad f s = (s.loadFailed f).finished g args .planRejected :=
  (if_pos (workPhaseIs_of_work (s := s.loadFailed f) h .loading)).trans (complete_of_work _ (s := s.loadFailed f) h)

end

/-! ## Plan words that arrive (R146) -/

section
variable {s : State} {w : Word}

theorem receivePlanWord_header (hp : s.loader.phase = .header) (hlen : (s.loader.buf ++ [w]).length = 4) :
    receivePlanWord w s = settle (finishHeader (s.setLoader { s.loader with buf := s.loader.buf ++ [w] })) := by
  rw [receivePlanWord, hp]
  exact if_pos hlen

theorem receivePlanWord_last {n : Nat} (hp : s.loader.phase = .body n) (hlen : (s.loader.buf ++ [w]).length = n) :
    receivePlanWord w s = settle (finishLoad n (s.setLoader { s.loader with buf := s.loader.buf ++ [w] })) := by
  rw [receivePlanWord, hp]
  exact if_pos hlen

/-- A plan of four words has no section, and fails. -/
theorem judgePlan_four (ws : List Word) (base : Nat) : judgePlan ws 4 base = .error .length :=
  judgePlan_noSections (if_neg (by simp))

theorem finishLoad_fault {n : Nat} {f : PlanFault} (h : judgePlan s.loader.buf n s.base = .error f) :
    finishLoad n s = failLoad f s := by
  rw [finishLoad, h]

theorem headerFault_eq {w0 w1 w2 w3 : Word} : headerFault [w0, w1, w2, w3] =
    if w0 ≠ 0x474C4A50 ∨ w1.toNat % 65536 ≠ 1 then .id
    else if ¬ (4 ≤ w2.toNat % 65536 ∧ w2.toNat % 65536 ≤ 2048) then .length else .none := by
  unfold headerFault
  simp only [planWord, List.getD_cons_zero, List.getD_cons_succ, bitsAt_zero, Bool.or_eq_true, decide_eq_true_iff,
    Bool.not_eq_true', ← Bool.not_eq_true, within_iff]
  rfl

theorem finishHeader_fault {f : PlanFault} (h : headerFault s.loader.buf = f) (hf : f ≠ .none) :
    finishHeader s = failLoad f s := by
  unfold finishHeader
  split
  next hn => exact absurd (h.symm.trans hn) hf
  next => rw [h]

theorem finishHeader_length {w0 w1 w2 w3 : Word} (hbuf : s.loader.buf = [w0, w1, w2, w3])
    (h0 : w0 = 0x474C4A50) (h1 : w1.toNat % 65536 = 1) (h2 : w2.toNat % 65536 ≤ 4 ∨ 2048 < w2.toNat % 65536) :
    finishHeader s = failLoad .length s := by
  have hfault := headerFault_eq (w0 := w0) (w1 := w1) (w2 := w2) (w3 := w3)
  rw [if_neg (by simp [h0, h1])] at hfault
  by_cases h4 : w2.toNat % 65536 = 4
  · rw [if_neg (by omega)] at hfault
    unfold finishHeader
    rw [hbuf, hfault]
    have hlen : bitsAt (planWord [w0, w1, w2, w3] 2) 0 16 = 4 := (bitsAt_zero _ _).trans h4
    simp only [hlen, if_true]
    exact finishLoad_fault (judgePlan_four _ _)
  · rw [if_pos (by omega)] at hfault
    exact finishHeader_fault (hbuf ▸ hfault) (by decide)

theorem finishHeader_goesOn {w0 w1 w2 w3 : Word} (hbuf : s.loader.buf = [w0, w1, w2, w3])
    (h0 : w0 = 0x474C4A50) (h1 : w1.toNat % 65536 = 1) (h2 : 4 < w2.toNat % 65536) (h3 : w2.toNat % 65536 ≤ 2048) :
    finishHeader s = s.setLoader { s.loader with
      phase := .body (w2.toNat % 65536)
      items := s.loader.items ++ (List.range (w2.toNat % 65536 - 4)).map fun i => .fetch (s.base + 0x410 + 4 * i) .planLoader } := by
  have hfault := headerFault_eq (w0 := w0) (w1 := w1) (w2 := w2) (w3 := w3)
  rw [if_neg (by simp [h0, h1]), if_neg (by omega)] at hfault
  have hlen : bitsAt (planWord [w0, w1, w2, w3] 2) 0 16 = w2.toNat % 65536 := bitsAt_zero _ _
  have hfetches : ∀ n, planFetches s 4 n = (List.range n).map fun i => .fetch (s.base + 0x410 + 4 * i) .planLoader := by
    intro n
    refine List.map_congr_left fun i _ => ?_
    rw [show s.base + Config.planOffset + 4 * (4 + i) = s.base + 0x410 + 4 * i by
      rw [show Config.planOffset = 0x400 from rfl]; omega]
  unfold finishHeader
  rw [hbuf, hfault]
  simp only [hlen]
  rw [if_neg (by omega), hfetches]

end

/-- Settles O55: a load fails with its fault, or has the rest of the plan fetched. -/
theorem loadProceeds : Obligations.LoadProceeds := by
  intro s a q hlow hq hheld t ws failed fails
  let u := t.setLoader { s.loader with buf := ws }
  have hfails : ∀ f, receivePlanWord (readWord s.mem a) t = settle (failLoad f u) → fails f := by
    intro f h
    have hend : EndsIn (exec .fetchPerformed s) (failLoad f u) := fetch_endsIn hlow hq hheld h (failLoad_held f u)
    refine ⟨fun hw => ?_, fun hw => ?_⟩
    · rw [failLoad_own f (s := u) hw] at hend
      exact hend
    · rw [failLoad_reload f (s := u) hw] at hend
      exact hend
  refine ⟨fun w0 w1 w2 w3 hphase hws => ?_, fun n f hphase hlen hjudge => ?_⟩
  · have hheader : receivePlanWord (readWord s.mem a) t = settle (finishHeader u) :=
      receivePlanWord_header (s := t) hphase (by
        change ws.length = 4
        rw [hws]
        rfl)
    refine ⟨fun hid => hfails _ ?_, fun h0 h1 h2 => hfails _ ?_, fun h0 h1 h2 h3 => ?_⟩
    · rw [hheader, finishHeader_fault (f := .id) ?_ (by decide)]
      rw [show u.loader.buf = [w0, w1, w2, w3] from hws, headerFault_eq, if_pos hid]
    · rw [hheader, finishHeader_length (s := u) hws h0 h1 h2]
    · refine fetch_endsIn hlow hq hheld (hheader.trans (congrArg settle ?_)) rfl
      exact finishHeader_goesOn (s := u) hws h0 h1 h2 h3
  · refine hfails _ ((receivePlanWord_last (s := t) hphase hlen).trans (congrArg settle ?_))
    exact finishLoad_fault (s := u) hjudge

/-! ## A plan that is accepted (R149) -/

theorem freeze_of_not_done {m : Mailbox} {i : MailItem} (h : i.isDone = false) : i.freeze m = i := by
  cases i with
  | taken w => rfl
  | finished w n r => rfl
  | done r f => cases h

theorem map_freeze_of_none_done {m : Mailbox} {js : List MailItem} (h : ∀ i ∈ js, i.isDone = false) :
    js.map (MailItem.freeze m) = js :=
  (List.map_congr_left fun i hi => freeze_of_not_done (h i hi)).trans (List.map_id _)

theorem holdsReload_iff (m : Mailbox) :
    m.holdsReload = true ↔ m.state = .taken ∧ ∃ w, m.work = some w ∧ w.fn = .reloadPlan := by
  rw [Mailbox.holdsReload, Bool.and_eq_true, beq_iff_eq, Option.any_eq_true]
  simp only [beq_iff_eq]

/-- A mailbox that holds no RELOAD PLAN gives its request up, its statuses frozen. -/
theorem afterLoad_idle {m : Mailbox} (h : ¬ (m.state = .taken ∧ ∃ w, m.work = some w ∧ w.fn = .reloadPlan)) :
    m.afterLoad = { m with state := .idle, args := [], work := none, items := m.items.map (MailItem.freeze m) } :=
  if_neg (mt (holdsReload_iff m).mp h)

theorem afterLoad_reload {m : Mailbox} {w : Work} (hs : m.state = .taken) (hw : m.work = some w) (hf : w.fn = .reloadPlan) :
    m.afterLoad = m := if_pos ((holdsReload_iff m).mpr ⟨hs, w, hw, hf⟩)

theorem carryOverlay_other {s : State} (h : ∀ w, s.mail.work = some w → ¬ (w.fn = .setOverlay ∧ w.phase = .handed)) :
    carryOverlay s = s := by
  unfold carryOverlay
  split
  next w hw => exact if_neg (h w hw)
  · rfl

theorem carryOverlay_handed {s : State} {x : Nat} (h : s.mail.work = some { fn := .setOverlay, args := [x], phase := .handed }) :
    carryOverlay s = (s.setPath { s.path with overlay := x == 1 }).finished .setOverlay [x] .ok := by
  rw [carryOverlay, h]
  refine (if_pos ⟨rfl, rfl⟩).trans (.trans ?_ (complete_of_work .ok (s := s.setPath { s.path with overlay := x == 1 }) h))
  rw [doOverlay, arg_of_work h]
  rfl

/-- The PLAN LOADED notice of an accepted plan has been raised (R149). -/
def State.planLoaded (pl : Plan) (clamped : Nat) (s : State) : State :=
  raiseNotice none { kind := .planLoaded, profile := none, subject := pl.serial, cycle := 0, detail := clamped } (accepted pl s)

section
variable {s : State} {pl : Plan} {k : Nat}

theorem planLoaded_mail (pl : Plan) (k : Nat) (s : State) : (s.planLoaded pl k).mail = s.mail.afterLoad := by
  rw [State.planLoaded, raiseNotice_eq]
  rfl

theorem acceptPlan_eq (pl : Plan) (k : Nat) (s : State) :
    acceptPlan pl k s =
      if workPhaseIs .loading ((carryOverlay s).planLoaded pl k) then complete .ok ((carryOverlay s).planLoaded pl k)
      else (carryOverlay s).planLoaded pl k := by
  unfold acceptPlan State.planLoaded
  rw [acceptValues_eq]

/-- An acceptance that no RELOAD PLAN waits for ends with its notice. -/
theorem acceptPlan_own {t : State} (hc : carryOverlay s = t) (h : ∀ w, t.mail.afterLoad.work = some w → w.phase ≠ .loading) :
    acceptPlan pl k s = t.planLoaded pl k := by
  have hno : workPhaseIs .loading (t.planLoaded pl k) = false := by
    unfold workPhaseIs
    rw [planLoaded_mail]
    cases hw : t.mail.afterLoad.work with
    | none => rfl
    | some w => simpa using h w hw
  rw [acceptPlan_eq, hc, hno]
  rfl

/-- The start values, block by block, with the mailbox as `mb` (R149). -/
theorem accepted_eq {mb : Mailbox} (h : s.mail.afterLoad = mb) :
    accepted pl s =
      { s with
        loader := { run := .running, plan := some pl, fault := .none, retry := none, phase := .idle, buf := [], items := [] }
        table := { s.table with contexts := pl.profiles.map freshContext }
        tracker :=
          { state := .noMould, active := none, last := none, openCycle := 0, lateStart := false,
            lastAbandoned := none, deferredOpen := false, limitTimer := none, unknownNote := none }
        asm := List.replicate 4 Assembler.start
        eval :=
          { accums := List.replicate 64 (Accum.cleared 0), busy := none, held := none, dump := s.eval.dump, frames := s.eval.frames }
        out := { s.out with stopLatch := false, stopHigh := some pl.stopHigh, marks := [] }
        report :=
          { published := List.replicate 61 0, building := List.replicate 61 0, producer := 0, consumer := 0, overflow := 0, seq := 0,
            ring := some { base := pl.ringBase, size := pl.ringSize, kindMask := pl.kindMask },
            items := s.report.items ++
              [.post (s.base + 0x40) 0 (some .mailbox), .post (s.base + 0x44) 0 (some .mailbox),
               .post (s.base + 0x48) 0 (some .mailbox)] }
        mail := mb } := by
  subst h
  rfl

end

/-- Settles O54: the start values of every block, and what becomes of the mailbox. -/
theorem planAccepted : Obligations.PlanAccepted := by
  intro s pl k n a q hlow hq hheld hphase hlen hjudge u idle
  let t := s.setPath { s.path with queue := q, turn := 0 }
  let v := t.setLoader { s.loader with buf := s.loader.buf ++ [readWord s.mem a] }
  have hends : ∀ z, acceptPlan pl k v = z → z.path.held = s.path.held → EndsIn (exec .fetchPerformed s) z := by
    intro z hz hzh
    have hlast : receivePlanWord (readWord s.mem a) t = settle (finishLoad n v) :=
      receivePlanWord_last (s := t) hphase (by
        rw [List.length_append, List.length_singleton]
        exact hlen)
    refine fetch_endsIn hlow hq hheld (hlast.trans (congrArg settle ?_)) hzh
    rw [finishLoad, show judgePlan v.loader.buf n v.base = .ok (pl, k) from hjudge]
    exact hz
  have hu : ∀ ov mb, (u ov mb).path.held = s.path.held := fun ov mb => by rw [raiseNotice_path]
  have hplain : ∀ mb, s.mail.afterLoad = mb → v.planLoaded pl k = u s.path.overlay mb := fun mb h =>
    congrArg (raiseNotice none _) (accepted_eq (s := v) h)
  refine ⟨fun hst hw hi => hends _ ?_ (hu _ _), fun hst hw => hends _ ?_ (hu _ _), fun w hst hw hf hp => hends _ ?_ (hu _ _),
    fun x hw hi => hends _ ?_ (hu _ _), fun js r f hw hitems hjs => hends _ ?_ (hu _ _)⟩
  · have hafter : s.mail.afterLoad = idle := by
      rw [afterLoad_idle fun h => hst h.1, map_freeze_of_none_done hi]
    rw [acceptPlan_own (t := v) (carryOverlay_other fun w h => (by cases hw.symm.trans h))
      (fun w h => (by cases (congrArg Mailbox.work hafter).symm.trans h))]
    exact hplain _ hafter
  · have hafter : s.mail.afterLoad = s.mail := afterLoad_reload hst hw rfl
    have hcarry : carryOverlay v = v := carryOverlay_other fun w h => (by cases hw.symm.trans h; simp)
    have hwork : (v.planLoaded pl k).mail.work = some { fn := .reloadPlan, args := [], phase := .loading } := by
      rw [planLoaded_mail]
      exact (congrArg Mailbox.work hafter).trans hw
    rw [acceptPlan_eq, hcarry, workPhaseIs_of_work hwork, complete_of_work .ok hwork]
    exact congrArg (fun x => State.finished x .reloadPlan [] .ok) (hplain _ hafter)
  · have hafter : s.mail.afterLoad = s.mail := afterLoad_reload hst hw hf
    rw [acceptPlan_own (t := v) (carryOverlay_other fun w' h => (by cases hw.symm.trans h; simp [hf]))
      (fun w' h => (by cases hw.symm.trans ((congrArg Mailbox.work hafter).symm.trans h); exact hp))]
    exact hplain _ hafter
  · let m : Mailbox := { s.mail with
      work := some { fn := .setOverlay, args := [x], phase := .done }, items := s.mail.items ++ [.done .ok s.loader.fault] }
    have hafter : m.afterLoad = { idle with
        items := s.mail.items ++ [.finished (doneStatus s.mail .ok s.loader.fault) s.mail.serial .ok] } := by
      rw [afterLoad_idle fun h => ?_]
      · rw [List.map_append, map_freeze_of_none_done hi, ← doneWord_eq_doneStatus]
        rfl
      · obtain ⟨-, w, hmw, hf⟩ := h
        cases hmw
        cases hf
    have hcarry := carryOverlay_handed (s := v) hw
    rw [acceptPlan_own hcarry (fun w h => (by cases (congrArg Mailbox.work hafter).symm.trans h))]
    exact congrArg (raiseNotice none _)
      (accepted_eq (s := (v.setPath { v.path with overlay := x == 1 }).finished .setOverlay [x] .ok) hafter)
  · have hafter : s.mail.afterLoad = { idle with
        items := js ++ [.finished (doneStatus s.mail r f) s.mail.serial r] } := by
      rw [afterLoad_idle fun h => ?_]
      · rw [hitems, List.map_append, map_freeze_of_none_done hjs, ← doneWord_eq_doneStatus]
        rfl
      · obtain ⟨-, w, hmw, hf⟩ := h
        exact (hw w hmw).1 hf
    rw [acceptPlan_own (t := v) (carryOverlay_other fun w h => (by simp [(hw w h).2]))
      (fun w h => (by cases (congrArg Mailbox.work hafter).symm.trans h))]
    exact hplain _ hafter

end Sys2Proof.Machine
end

section
/-! PROOFS. No block reads the transactions that are held at the controller port (R138): what it makes of a state is the same
whatever is held. -/

namespace Sys2Proof.Machine

/-- The state with `ts` held at the controller port. -/
def State.withHeld (ts : List Txn) (s : State) : State := s.setPath { s.path with held := ts }

section
variable (ts : List Txn) (s : State)

/-! ## Fields and updates -/

@[simp] theorem withHeld_mem : (s.withHeld ts).mem = s.mem := rfl
@[simp] theorem withHeld_resetLow : (s.withHeld ts).resetLow = s.resetLow := rfl
@[simp] theorem withHeld_base : (s.withHeld ts).base = s.base := rfl
@[simp] theorem withHeld_loader : (s.withHeld ts).loader = s.loader := rfl
@[simp] theorem withHeld_tracker : (s.withHeld ts).tracker = s.tracker := rfl
@[simp] theorem withHeld_closing : (s.withHeld ts).closing = s.closing := rfl
@[simp] theorem withHeld_asm : (s.withHeld ts).asm = s.asm := rfl
@[simp] theorem withHeld_eval : (s.withHeld ts).eval = s.eval := rfl
@[simp] theorem withHeld_table : (s.withHeld ts).table = s.table := rfl
@[simp] theorem withHeld_out : (s.withHeld ts).out = s.out := rfl
@[simp] theorem withHeld_report : (s.withHeld ts).report = s.report := rfl
@[simp] theorem withHeld_mail : (s.withHeld ts).mail = s.mail := rfl
@[simp] theorem withHeld_queue : (s.withHeld ts).path.queue = s.path.queue := rfl
@[simp] theorem withHeld_turn : (s.withHeld ts).path.turn = s.path.turn := rfl
@[simp] theorem withHeld_held : (s.withHeld ts).path.held = ts := rfl
@[simp] theorem withHeld_runningPlan : (s.withHeld ts).runningPlan = s.runningPlan := rfl
@[simp] theorem withHeld_notice (k : NoticeKind) (x d : Nat) : (s.withHeld ts).notice k x d = s.notice k x d := rfl
@[simp] theorem withHeld_arg (i : Nat) : (s.withHeld ts).arg i = s.arg i := rfl
@[simp] theorem withHeld_argProfile : (s.withHeld ts).argProfile = s.argProfile := rfl
@[simp] theorem withHeld_cavity (p c : Nat) : (s.withHeld ts).cavity p c = s.cavity p c := rfl
@[simp] theorem withHeld_isOpen : (s.withHeld ts).isOpen = s.isOpen := rfl
@[simp] theorem withHeld_assembler (i : Nat) : (s.withHeld ts).assembler i = s.assembler i := rfl
@[simp] theorem withHeld_gated (g : Gate) : gated g (s.withHeld ts) = gated g s := rfl
@[simp] theorem withHeld_workPhaseIs (p : WorkPhase) : workPhaseIs p (s.withHeld ts) = workPhaseIs p s := rfl
@[simp] theorem withHeld_canPlace (p : Producer) : canPlace (s.withHeld ts) p = canPlace s p := by cases p <;> rfl
@[simp] theorem withHeld_withHeld (us : List Txn) : (s.withHeld us).withHeld ts = s.withHeld ts := rfl

@[simp] theorem withHeld_setMem (v) : (s.withHeld ts).setMem v = (s.setMem v).withHeld ts := rfl
@[simp] theorem withHeld_setLoader (v) : (s.withHeld ts).setLoader v = (s.setLoader v).withHeld ts := rfl
@[simp] theorem withHeld_setTracker (v) : (s.withHeld ts).setTracker v = (s.setTracker v).withHeld ts := rfl
@[simp] theorem withHeld_setClosing (v) : (s.withHeld ts).setClosing v = (s.setClosing v).withHeld ts := rfl
@[simp] theorem withHeld_setAsm (v) : (s.withHeld ts).setAsm v = (s.setAsm v).withHeld ts := rfl
@[simp] theorem withHeld_setAssembler (i v) : (s.withHeld ts).setAssembler i v = (s.setAssembler i v).withHeld ts := rfl
@[simp] theorem withHeld_setEval (v) : (s.withHeld ts).setEval v = (s.setEval v).withHeld ts := rfl
@[simp] theorem withHeld_setTable (v) : (s.withHeld ts).setTable v = (s.setTable v).withHeld ts := rfl
@[simp] theorem withHeld_setOut (v) : (s.withHeld ts).setOut v = (s.setOut v).withHeld ts := rfl
@[simp] theorem withHeld_setReport (v) : (s.withHeld ts).setReport v = (s.setReport v).withHeld ts := rfl
@[simp] theorem withHeld_setMail (v) : (s.withHeld ts).setMail v = (s.setMail v).withHeld ts := rfl

@[simp] theorem withHeld_ite (c : Prop) [Decidable c] (a b : State) :
    (if c then a else b).withHeld ts = if c then a.withHeld ts else b.withHeld ts := apply_ite _ c a b

/-! ## Placing entries (R134) -/

@[simp] theorem enqueue_withHeld (e : Entry) : enqueue e (s.withHeld ts) = (enqueue e s).withHeld ts := rfl

@[simp] theorem setReportItems_withHeld (is : List ReportItem) :
    setReportItems is (s.withHeld ts) = (setReportItems is s).withHeld ts := rfl

@[simp] theorem raiseNotice_withHeld (g : Option Gate) (n : Notice) :
    raiseNotice g n (s.withHeld ts) = (raiseNotice g n s).withHeld ts := by
  rw [raiseNotice_eq, raiseNotice_eq]
  rfl

@[simp] theorem complete_withHeld (r : Result) : complete r (s.withHeld ts) = (complete r s).withHeld ts := rfl
@[simp] theorem setPhase_withHeld (p : WorkPhase) : setPhase p (s.withHeld ts) = (setPhase p s).withHeld ts := rfl

@[simp] theorem pushMark_withHeld (c t : Nat) : pushMark c t (s.withHeld ts) = (pushMark c t s).withHeld ts := by
  simp [pushMark]

@[simp] theorem raiseDue_withHeld (is : List StepItem) : raiseDue is (s.withHeld ts) = (raiseDue is s).withHeld ts := by
  induction is generalizing s with
  | nil => rfl
  | cons i is ih => cases i <;> simp [raiseDue, ih]

@[simp] theorem advance_withHeld : advance (s.withHeld ts) = (advance s).withHeld ts := by
  simp [advance]

@[simp] theorem placeNotice_withHeld (r : Ring) (n : Notice) (q : Nat) (g : Option Gate) (is : List ReportItem) :
    placeNotice r n q g is (s.withHeld ts) = (placeNotice r n q g is s).withHeld ts := by
  simp [placeNotice, noticeWords, wordsFrom]

@[simp] theorem placeProducerIndex_withHeld (r : Ring) (is : List ReportItem) :
    placeProducerIndex r is (s.withHeld ts) = (placeProducerIndex r is s).withHeld ts := rfl

@[simp] theorem placeReport_withHeld : placeReport (s.withHeld ts) = (placeReport s).withHeld ts := by
  unfold placeReport
  rw [withHeld_report]
  split <;> simp

@[simp] theorem requestDone_withHeld (n : Nat) (r : Result) :
    raiseRequestDone n r (s.withHeld ts) = (raiseRequestDone n r s).withHeld ts := by
  simp [raiseRequestDone]

@[simp] theorem placeStatus_withHeld : placeStatus (s.withHeld ts) = (placeStatus s).withHeld ts := by
  unfold placeStatus
  rw [withHeld_mail]
  split <;> simp

@[simp] theorem placeImage_withHeld : placeImage (s.withHeld ts) = (placeImage s).withHeld ts := by
  unfold placeImage
  rw [withHeld_table]
  split
  · rfl
  · simp
    rfl
  · rfl

@[simp] theorem placeDump_withHeld : placeDump (s.withHeld ts) = (placeDump s).withHeld ts := by
  unfold placeDump
  rw [withHeld_eval]
  split
  · rfl
  · simp
    rfl
  · rfl

@[simp] theorem placeFetch_withHeld : placeFetch (s.withHeld ts) = (placeFetch s).withHeld ts := by
  unfold placeFetch
  rw [withHeld_loader]
  split <;> simp

@[simp] theorem placeNext_withHeld (p : Producer) : placeNext p (s.withHeld ts) = (placeNext p s).withHeld ts := by
  cases p <;> simp [placeNext]

@[simp] theorem placeUpTo_withHeld (n : Nat) : placeUpTo n (s.withHeld ts) = (placeUpTo n s).withHeld ts := by
  induction n generalizing s with
  | zero => rfl
  | succ n ih =>
    have hcan : canPlace (s.withHeld ts) = canPlace s := funext (withHeld_canPlace ts s)
    rw [placeUpTo, placeUpTo, hcan]
    cases producers.find? (canPlace s) <;> simp [ih]

@[simp] theorem settle_withHeld : settle (s.withHeld ts) = (settle s).withHeld ts := by
  simp [settle]

end

end Sys2Proof.Machine
end

section
/-! PROOFS. No block reads the transactions that are held at the controller port, continued: what the blocks make of a word
that is offered to them or fetched for them. -/

namespace Sys2Proof.Machine

section
variable (ts : List Txn) (s : State)

/-! ## Contexts and waiting work -/

@[simp] theorem setPublished_withHeld (b : List Word) : setPublished b (s.withHeld ts) = (setPublished b s).withHeld ts := rfl
@[simp] theorem publishZeros_withHeld : publishZeros (s.withHeld ts) = (publishZeros s).withHeld ts := rfl

@[simp] theorem activationBank_withHeld (p : Nat) (c : Context) : activationBank (s.withHeld ts) p c = activationBank s p c := rfl

@[simp] theorem publishActivation_withHeld (p : Nat) :
    publishActivation p (s.withHeld ts) = (publishActivation p s).withHeld ts := by
  unfold publishActivation
  rw [withHeld_table]
  split <;> simp

@[simp] theorem imageOf_withHeld (pl : Plan) (q : ProfilePlan) (p : Nat) (k : SnapshotKind) (c : Context) :
    imageOf (s.withHeld ts) pl q p k c = imageOf s pl q p k c := rfl

@[simp] theorem takeSnapshot_withHeld (k : SnapshotKind) : takeSnapshot k (s.withHeld ts) = (takeSnapshot k s).withHeld ts := by
  unfold takeSnapshot
  rw [withHeld_argProfile, withHeld_table, withHeld_arg]
  split <;> simp

@[simp] theorem commitImage_withHeld : commitImage (s.withHeld ts) = (commitImage s).withHeld ts := by
  unfold commitImage
  rw [withHeld_argProfile]
  split <;> simp [apply_ite (complete .ok)]

@[simp] theorem releaseAtAbandon_withHeld : releaseAtAbandon (s.withHeld ts) = (releaseAtAbandon s).withHeld ts := by
  unfold releaseAtAbandon
  rw [withHeld_mail]
  split
  · rfl
  · split <;> simp

/-! ## The tracker (chapter 1) -/

@[simp] theorem dropBusy_withHeld : dropBusy (s.withHeld ts) = (dropBusy s).withHeld ts := by
  rw [dropBusy_eq, dropBusy_eq]
  rfl

@[simp] theorem abandonWindow_withHeld (r : AbandonReason) :
    abandonWindow r (s.withHeld ts) = (abandonWindow r s).withHeld ts := by
  simp [abandonWindow]

@[simp] theorem openWindow_withHeld (pl : Plan) (c : Nat) (late : Bool) :
    openWindow pl c late (s.withHeld ts) = (openWindow pl c late s).withHeld ts := rfl
@[simp] theorem closeWindow_withHeld (d : Bool) : closeWindow d (s.withHeld ts) = (closeWindow d s).withHeld ts := rfl
@[simp] theorem enterNoMould_withHeld (n : Option Nat) :
    enterNoMould n (s.withHeld ts) = (enterNoMould n s).withHeld ts := rfl
@[simp] theorem dropHeld_withHeld : dropHeld (s.withHeld ts) = (dropHeld s).withHeld ts := rfl
@[simp] theorem activeMould_withHeld (pl : Plan) : activeMould pl (s.withHeld ts) = activeMould pl s := rfl
@[simp] theorem abandonsWindow_withHeld (pl : Plan) (w : StateWord) :
    abandonsWindow pl w (s.withHeld ts) = abandonsWindow pl w s := rfl

@[simp] theorem activate_withHeld (pl : Plan) (p : Nat) : activate pl p (s.withHeld ts) = (activate pl p s).withHeld ts := by
  simp [activate]

@[simp] theorem applyMould_withHeld (pl : Plan) (id : Nat) :
    applyMould pl id (s.withHeld ts) = (applyMould pl id s).withHeld ts := by
  unfold applyMould
  by_cases h : id = 0
  · simp [h]
  · rw [if_neg h, if_neg h]
    cases pl.profileOf id <;> simp [apply_ite publishZeros]

@[simp] theorem mouldPart_withHeld (pl : Plan) (id : Nat) :
    mouldPart pl id (s.withHeld ts) = (mouldPart pl id s).withHeld ts := by
  unfold mouldPart
  rw [activeMould_withHeld, withHeld_tracker]
  cases s.tracker.state <;> simp

@[simp] theorem phasePart_withHeld (pl : Plan) (w : StateWord) :
    phasePart pl w (s.withHeld ts) = (phasePart pl w s).withHeld ts := by
  unfold phasePart armedPhase openPhase closingPhase
  rw [withHeld_tracker]
  cases s.tracker.state <;> cases w.phase <;> simp

@[simp] theorem clearAbandoned_withHeld (w : StateWord) (b : Bool) :
    clearAbandoned w b (s.withHeld ts) = (clearAbandoned w b s).withHeld ts := by
  simp [clearAbandoned]

@[simp] theorem advanceMarks_withHeld (pl : Plan) (c : Nat) :
    advanceMarks pl c (s.withHeld ts) = (advanceMarks pl c s).withHeld ts := by
  unfold advanceMarks
  rw [withHeld_ite]
  rfl

@[simp] theorem handleWord_withHeld (pl : Plan) (w : StateWord) :
    handleWord pl w (s.withHeld ts) = (handleWord pl w s).withHeld ts := by
  unfold handleWord
  simp only [withHeld_tracker, withHeld_setTracker, abandonsWindow_withHeld, advanceMarks_withHeld, ← withHeld_ite,
    mouldPart_withHeld, phasePart_withHeld, clearAbandoned_withHeld]

@[simp] theorem examineStateWord_withHeld (pl : Plan) (d : WriteWord) :
    examineStateWord pl d (s.withHeld ts) = (examineStateWord pl d s).withHeld ts := by
  unfold examineStateWord
  split <;> simp

/-! ## Frame assemblers (chapter 2) -/

@[simp] theorem raiseCaptureFault_withHeld (i : Nat) (f : CaptureFault) :
    raiseCaptureFault i f (s.withHeld ts) = (raiseCaptureFault i f s).withHeld ts := by
  simp [raiseCaptureFault]

@[simp] theorem formatFault_withHeld (i : Nat) : formatFault i (s.withHeld ts) = (formatFault i s).withHeld ts := by
  simp [formatFault]

@[simp] theorem offerFrame_withHeld (i : Nat) (f : Frame) :
    offerFrame i f (s.withHeld ts) = (offerFrame i f s).withHeld ts := by
  unfold offerFrame
  dsimp only [withHeld_assembler, withHeld_isOpen]
  cases (s.assembler i).slot0 <;> cases (s.assembler i).slot1 <;> simp

@[simp] theorem completeFrame_withHeld (i : Nat) (ws : List Word) :
    completeFrame i ws (s.withHeld ts) = (completeFrame i ws s).withHeld ts := by
  simp [completeFrame]

@[simp] theorem expectedWord_withHeld (i : Nat) (w : WindowPlan) (a : Nat) (d : Word) :
    expectedWord i w a d (s.withHeld ts) = (expectedWord i w a d s).withHeld ts := by
  simp [expectedWord]

@[simp] theorem sequenceBreak_withHeld (i : Nat) (w : WindowPlan) (a : Nat) (d : Word) :
    sequenceBreak i w a d (s.withHeld ts) = (sequenceBreak i w a d s).withHeld ts := by
  simp [sequenceBreak]

@[simp] theorem examineRingWord_withHeld (i : Nat) (w : WindowPlan) (a : Nat) (d : WriteWord) :
    examineRingWord i w a d (s.withHeld ts) = (examineRingWord i w a d s).withHeld ts := by
  unfold examineRingWord
  dsimp only [withHeld_assembler, withHeld_isOpen]
  cases (s.assembler i).state <;> simp

/-! ## The mailbox and the report writer (chapters 8 and 9) -/

@[simp] theorem takeRequest_withHeld : takeRequest (s.withHeld ts) = (takeRequest s).withHeld ts := by
  unfold takeRequest
  have hcheck : checkRequest (s.withHeld ts) = checkRequest s := rfl
  dsimp only
  rw [hcheck, withHeld_mail]
  cases checkRequest s s.mail.fn (s.mail.args.map BitVec.toNat) <;> rfl

@[simp] theorem malformRequest_withHeld : malformRequest (s.withHeld ts) = (malformRequest s).withHeld ts := rfl
@[simp] theorem startCollection_withHeld (d : Word) :
    startCollection d (s.withHeld ts) = (startCollection d s).withHeld ts := rfl

@[simp] theorem collectWord_withHeld (d : Word) : collectWord d (s.withHeld ts) = (collectWord d s).withHeld ts := by
  simp [collectWord]

@[simp] theorem examineMailWord_withHeld (i : Nat) (d : WriteWord) :
    examineMailWord i d (s.withHeld ts) = (examineMailWord i d s).withHeld ts := by
  unfold examineMailWord
  rw [withHeld_mail]
  split <;> simp

@[simp] theorem examineConsumer_withHeld (d : WriteWord) :
    examineConsumer d (s.withHeld ts) = (examineConsumer d s).withHeld ts := by
  unfold examineConsumer
  rw [withHeld_runningPlan]
  split
  · rfl
  · simp only [withHeld_ite]
    rfl

/-! ## Fetched words (chapters 6 and 10) -/

@[simp] theorem failLoad_withHeld (f : PlanFault) : failLoad f (s.withHeld ts) = (failLoad f s).withHeld ts := by
  unfold failLoad
  simp
  rfl

@[simp] theorem carryOverlay_withHeld : carryOverlay (s.withHeld ts) = (carryOverlay s).withHeld ts := by
  unfold carryOverlay
  rw [withHeld_mail]
  split
  · rw [withHeld_ite]
    rfl
  · rfl

@[simp] theorem acceptPlan_withHeld (pl : Plan) (n : Nat) :
    acceptPlan pl n (s.withHeld ts) = (acceptPlan pl n s).withHeld ts := by
  have hloaded : ∀ t : State, (t.withHeld ts).planLoaded pl n = (t.planLoaded pl n).withHeld ts :=
    fun t => raiseNotice_withHeld ts (accepted pl t) _ _
  rw [acceptPlan_eq, acceptPlan_eq, carryOverlay_withHeld, hloaded, withHeld_ite]
  rfl

@[simp] theorem finishLoad_withHeld (n : Nat) : finishLoad n (s.withHeld ts) = (finishLoad n s).withHeld ts := by
  unfold finishLoad
  rw [withHeld_loader, withHeld_base]
  split <;> simp

@[simp] theorem finishHeader_withHeld : finishHeader (s.withHeld ts) = (finishHeader s).withHeld ts := by
  unfold finishHeader
  rw [withHeld_loader]
  split
  · dsimp only
    rw [withHeld_ite, finishLoad_withHeld]
    rfl
  · simp

@[simp] theorem receivePlanWord_withHeld (w : Word) : receivePlanWord w (s.withHeld ts) = (receivePlanWord w s).withHeld ts := by
  unfold receivePlanWord
  rw [withHeld_loader]
  split <;> simp

@[simp] theorem windowBusy_withHeld (p : Nat) : windowBusy (s.withHeld ts) p = windowBusy s p := rfl

@[simp] theorem checkImage_withHeld (q : ProfilePlan) : checkImage q (s.withHeld ts) = (checkImage q s).withHeld ts := by
  simp [checkImage]

@[simp] theorem receiveImageWord_withHeld (w : Word) :
    receiveImageWord w (s.withHeld ts) = (receiveImageWord w s).withHeld ts := by
  unfold receiveImageWord
  rw [withHeld_argProfile, withHeld_workPhaseIs, withHeld_ite]
  refine if_congr Iff.rfl ?_ rfl
  split <;> simp

theorem deliver_withHeld (d : Dest) (w : Word) : deliver d w (s.withHeld ts) = (deliver d w s).withHeld ts := by
  cases d <;> simp [deliver]

/-! ## Transactions taken (chapter 9) -/

theorem snoopWord_withHeld (x : Nat × WriteWord) : snoopWord (s.withHeld ts) x = (snoopWord s x).withHeld ts := by
  unfold snoopWord
  simp only [withHeld_base, withHeld_runningPlan, withHeld_ite, examineMailWord_withHeld, examineConsumer_withHeld]
  refine if_congr Iff.rfl rfl (if_congr Iff.rfl rfl ?_)
  cases s.runningPlan with
  | none => rfl
  | some pl =>
    simp only [withHeld_ite, examineStateWord_withHeld]
    refine if_congr Iff.rfl rfl ?_
    cases ringAt pl x.1 <;> simp

theorem snoopWords_withHeld (xs : List (Nat × WriteWord)) :
    xs.foldl snoopWord (s.withHeld ts) = (xs.foldl snoopWord s).withHeld ts := by
  induction xs generalizing s with
  | nil => rfl
  | cons x xs ih => rw [List.foldl_cons, List.foldl_cons, snoopWord_withHeld, ih]

theorem takeRead_withHeld (t : ReadBurst) : takeRead t (s.withHeld ts) = (takeRead t s).withHeld ts := by
  have hserve : serveWord (s.withHeld ts) = serveWord s := rfl
  unfold takeRead
  dsimp only
  rw [hserve, withHeld_ite]
  rfl

/-- What a transaction makes of a state does not depend on the transactions that are held. -/
theorem takeTxn_withHeld (t : Txn) : takeTxn t (s.withHeld ts) = (takeTxn t s).withHeld ts := by
  cases t with
  | write t => exact snoopWords_withHeld ts (mergeAndForward t s) (placedWords t)
  | read t => exact takeRead_withHeld ts s t

end

end Sys2Proof.Machine
end

section
/-! PROOFS. Entries of the outbound queue placed and performed, and the transactions that then arrive (9.3, 9.4). -/

namespace Sys2Proof.Machine

/-! ## Entries placed (R103, R134) -/

section
variable {s : State} {e f : Entry} {r : List Entry}

theorem exec_placed {p : Producer} {t u : State} (hlow : s.resetLow = false) (hcan : canPlace s p = true)
    (hplace : placeNext p s = advance t) (hclose : t.closing.items = []) (hu : t = u) :
    exec (.queueRoomPlacement p) s = .next u := by
  rw [exec_placement hlow hcan, hplace, advance_idle hclose, hu]

theorem canPlace_full (p : Producer) (h : 32 ≤ s.path.queue.length) : canPlace s p = false := by
  have hroom : hasRoom s = false := decide_eq_false (Nat.not_lt.mpr h)
  cases p <;> simp [canPlace, hroom]

theorem canPlace_contextTable (hroom : s.path.queue.length < 32) (h : s.table.items = e :: r) :
    canPlace s .contextTable = true := by
  rw [canPlace, hasRoom_of_lt hroom, h]
  rfl

theorem canPlace_channelEvaluator (hroom : s.path.queue.length < 32) (h : s.eval.dump = e :: r) :
    canPlace s .channelEvaluator = true := by
  rw [canPlace, hasRoom_of_lt hroom, h]
  rfl

theorem canPlace_planLoader (hroom : s.path.queue.length < 32) (h : s.loader.items = e :: r) (hr : s.report.items = []) :
    canPlace s .planLoader = true := by
  rw [canPlace, hasRoom_of_lt hroom, h, hr]
  rfl

theorem placeImage_more (h : s.table.items = e :: f :: r) :
    placeImage s = (s.setPath { s.path with queue := s.path.queue ++ [e] }).setTable { s.table with items := f :: r } := by
  rw [placeImage, h]
  rfl

theorem placeImage_last {p a : Nat} (h : s.table.items = [e])
    (hw : s.mail.work = some { fn := .saveContext, args := [p, a], phase := .placing }) :
    placeImage s = ((s.setPath { s.path with queue := s.path.queue ++ [e] }).setTable
      { s.table with items := [], buf := [] }).finished .saveContext [p, a] .ok := by
  rw [placeImage, h]
  refine (if_pos (workPhaseIs_of_work (s := enqueue e (s.setTable { s.table with items := [] })) hw .placing)).trans ?_
  exact complete_of_work .ok (s := (enqueue e (s.setTable { s.table with items := [] })).setTable _) hw

theorem placeDump_more (h : s.eval.dump = e :: f :: r) :
    placeDump s = (s.setPath { s.path with queue := s.path.queue ++ [e] }).setEval { s.eval with dump := f :: r } := by
  rw [placeDump, h]
  rfl

theorem placeDump_last {a : Nat} (h : s.eval.dump = [e])
    (hw : s.mail.work = some { fn := .dumpChannels, args := [a], phase := .placing }) :
    placeDump s = ((s.setPath { s.path with queue := s.path.queue ++ [e] }).setEval
      { s.eval with dump := [] }).finished .dumpChannels [a] .ok := by
  rw [placeDump, h]
  refine (if_pos (workPhaseIs_of_work (s := enqueue e (s.setEval { s.eval with dump := [] })) hw .placing)).trans ?_
  exact complete_of_work .ok (s := enqueue e (s.setEval { s.eval with dump := [] })) hw

theorem placeFetch_next (h : s.loader.items = e :: r) :
    placeFetch s = (s.setPath { s.path with queue := s.path.queue ++ [e] }).setLoader { s.loader with items := r } := by
  rw [placeFetch, h]
  rfl

end

/-! ## Held transactions arrive again (R138) -/

section
variable {s : State}

theorem withHeld_self {ts : List Txn} (h : s.path.held = ts) : s.withHeld ts = s := by
  rw [← h]
  rfl

theorem exec_txnCommand {t : Txn} (h : t.ok = true) (s : State) : exec (Txn.command t) s = .next (arrive t s) := by
  cases t with
  | write t =>
    change submit (.write t) s = _
    rw [submit, if_pos h]
  | read t =>
    change submit (.read t) s = _
    rw [submit, if_pos h]

/-- Behind a held transaction every transaction is held. -/
theorem runAll_behind_held {ts us : List Txn} (hlow : s.resetLow = false) (hok : ∀ t ∈ ts, t.ok = true) (hus : us ≠ []) :
    runAll (ts.map Txn.command) (s.withHeld us) = some (s.withHeld (us ++ ts)) := by
  induction ts generalizing us with
  | nil => rw [List.append_nil]; rfl
  | cons t ts ih =>
    obtain ⟨ht, hts⟩ := List.forall_mem_cons.mp hok
    have harrive : arrive t (s.withHeld us) = s.withHeld (us ++ [t]) := by
      have hne : (!us.isEmpty) = true := by simpa using hus
      unfold arrive
      rw [withHeld_resetLow, hlow, withHeld_held, hne]
      rfl
    simp only [List.map_cons, runAll, exec_txnCommand ht, harrive]
    rw [ih hts (by simp), List.append_assoc]
    rfl

theorem takeTxn_held (t : Txn) (h : s.path.held = []) : (takeTxn t s).path.held = [] := by
  have hframe := takeTxn_withHeld [] s t
  rw [withHeld_self h] at hframe
  rw [hframe]
  rfl

theorem takeTxn_resetLow (t : Txn) : (takeTxn t s).resetLow = s.resetLow := by
  cases t with
  | write t => exact (snoop_reacts (placedWords t) (mergeAndForward t s)).resetLow
  | read t =>
    change (takeRead t s).resetLow = _
    unfold takeRead
    dsimp only
    split <;> rfl

/-- Transactions that arrive one after the other are taken as held ones are (R138). -/
theorem runAll_commands (ts : List Txn) {s : State} (hlow : s.resetLow = false) (hheld : s.path.held = [])
    (hok : ∀ t ∈ ts, t.ok = true) : runAll (ts.map Txn.command) s = some (takeHeld ts s) := by
  induction ts generalizing s with
  | nil => rw [takeHeld_nil hheld]; rfl
  | cons t ts ih =>
    obtain ⟨ht, hts⟩ := List.forall_mem_cons.mp hok
    have harrive : arrive t s = if holds s then s.withHeld [t] else takeTxn t s := by
      unfold arrive
      rw [hlow, hheld]
      rfl
    simp only [List.map_cons, runAll, exec_txnCommand ht, harrive]
    by_cases hh : holds s = true
    · rw [if_pos hh, runAll_behind_held hlow hts (by simp), takeHeld, if_pos hh]
      rfl
    · rw [if_neg hh, ih ((takeTxn_resetLow t).trans hlow) (takeTxn_held t hheld) hts, takeHeld, if_neg hh]

/-- The transactions that wait replace those that were held before. -/
theorem takeHeld_withHeld (ts us : List Txn) (s : State) : takeHeld ts (s.withHeld us) = takeHeld ts s := by
  induction ts generalizing s with
  | nil => rfl
  | cons t ts ih =>
    have hholds : holds (s.withHeld us) = holds s := rfl
    rw [takeHeld, takeHeld, hholds, takeTxn_withHeld, ih]
    rfl

end

/-! ## Entries performed (R137) -/

section
variable {s : State} {a : Nat} {w : Word} {o : Lanes} {d : Dest} {q : List Entry}

theorem exec_postPerformed (hlow : s.resetLow = false) (hq : s.path.queue = .post a w o :: q) :
    exec .postPerformed s = .next (takeHeld s.path.held ((popEntry q s).setMem (writeWord s.mem a w))) := by
  change execPostPerformed s = _
  rw [execPostPerformed, if_neg (by simp [hlow]), performPost, hq]

theorem failLoad_resetLow (f : PlanFault) (s : State) : (failLoad f s).resetLow = s.resetLow := by
  unfold failLoad
  dsimp only
  split <;> rfl

theorem carryOverlay_resetLow (s : State) : (carryOverlay s).resetLow = s.resetLow := by
  unfold carryOverlay
  split
  · split <;> rfl
  · rfl

theorem planLoaded_resetLow (pl : Plan) (k : Nat) (s : State) : (s.planLoaded pl k).resetLow = s.resetLow := by
  rw [State.planLoaded, (raiseNotice_reacts _ _ _).resetLow]
  rfl

theorem finishLoad_resetLow (n : Nat) (s : State) : (finishLoad n s).resetLow = s.resetLow := by
  unfold finishLoad
  split
  · rw [acceptPlan_eq, apply_ite State.resetLow, (complete_reacts _ _).resetLow, ite_self, planLoaded_resetLow]
    exact carryOverlay_resetLow s
  · exact failLoad_resetLow _ s

theorem finishHeader_resetLow (s : State) : (finishHeader s).resetLow = s.resetLow := by
  unfold finishHeader
  split
  · dsimp only
    split
    · exact finishLoad_resetLow _ s
    · rfl
  · exact failLoad_resetLow _ s

theorem receivePlanWord_resetLow (w : Word) (s : State) : (receivePlanWord w s).resetLow = s.resetLow := by
  unfold receivePlanWord
  dsimp only
  split
  · rfl
  · split
    · exact (settle_settled _).resetLow.trans (finishHeader_resetLow _)
    · rfl
  · split
    · exact (settle_settled _).resetLow.trans (finishLoad_resetLow _ _)
    · rfl

theorem receiveImageWord_resetLow (w : Word) (s : State) : (receiveImageWord w s).resetLow = s.resetLow := by
  have hcheck : ∀ (q : ProfilePlan) (t : State), (checkImage q t).resetLow = t.resetLow := by
    intro q t
    unfold checkImage
    split
    · rfl
    · split
      · rfl
      · split
        · rfl
        · exact (commitImage_reacts t).resetLow
  unfold receiveImageWord
  split
  · split
    · dsimp only
      split
      · exact (settle_settled _).resetLow.trans (hcheck _ _)
      · rfl
    · rfl
  · rfl

theorem deliver_resetLow (d : Dest) (w : Word) (s : State) : (deliver d w s).resetLow = s.resetLow := by
  cases d with
  | planLoader => exact receivePlanWord_resetLow w s
  | contextTable => exact receiveImageWord_resetLow w s
  | dropped => rfl

/-- What a performed entry makes of a state, before the transactions that are held arrive (R137). -/
theorem exec_performed {c : Instr} (hlow : s.resetLow = false)
    (h : (c = .postPerformed ∧ ∃ a w o q, s.path.queue = .post a w o :: q) ∨
      (c = .fetchPerformed ∧ ∃ a d q, s.path.queue = .fetch a d :: q)) :
    ∃ u : State, u.resetLow = false ∧ ∀ ts, exec c (s.withHeld ts) = .next (takeHeld ts u) := by
  rcases h with ⟨rfl, a, w, o, q, hq⟩ | ⟨rfl, a, d, q, hq⟩
  · refine ⟨(popEntry q s).setMem (writeWord s.mem a w), hlow, fun ts => ?_⟩
    rw [exec_postPerformed (s := s.withHeld ts) hlow hq]
    exact congrArg _ (takeHeld_withHeld ts ts ((popEntry q s).setMem (writeWord s.mem a w)))
  · refine ⟨deliver d (readWord s.mem a) (popEntry q s), (deliver_resetLow _ _ _).trans hlow, fun ts => ?_⟩
    · rw [exec_fetchPerformed (s := s.withHeld ts) hlow hq]
      refine congrArg _ ?_
      change takeHeld ts (deliver d (readWord s.mem a) ((popEntry q s).withHeld ts)) = _
      rw [deliver_withHeld, takeHeld_withHeld]

theorem receivePlanWord_more (h : (s.loader.phase = .header ∧ s.loader.buf.length < 3) ∨
    ∃ n, s.loader.phase = .body n ∧ s.loader.buf.length + 1 < n) :
    receivePlanWord w s = s.setLoader { s.loader with buf := s.loader.buf ++ [w] } := by
  have hlen : (s.setLoader { s.loader with buf := s.loader.buf ++ [w] }).loader.buf.length = s.loader.buf.length + 1 := by
    rw [State.setLoader_loader, List.length_append, List.length_singleton]
  rcases h with ⟨hp, hlt⟩ | ⟨n, hp, hlt⟩
  · rw [receivePlanWord, hp]
    exact if_neg (by rw [hlen]; omega)
  · rw [receivePlanWord, hp]
    exact if_neg (by rw [hlen]; omega)

end

/-- Settles O50: entries performed, transactions that then arrive, and entries placed. -/
theorem entriesPlacedAndPerformed : Obligations.EntriesPlacedAndPerformed := by
  refine ⟨⟨fun s a w o q hlow hq => ?_, fun s a d q hlow hq hheld => ?_, fun c s t hlow hok hc ht => ?_⟩,
    fun s p hfull => exec_noPlacement (canPlace_full p hfull), fun s e f r hlow hroom hclose => ?_⟩
  · intro t
    refine ⟨fun hheld => ?_, fun hwf => ⟨readWord_writeWord hwf, fun y hy => readByte_writeLanes_outside (w := w) (l := 15) hwf hy⟩⟩
    rw [exec_postPerformed hlow hq, hheld]
    exact congrArg _ (takeHeld_nil hheld)
  · intro t w
    have hexec : ∀ u, deliver d w t = u → u.path.held = [] → exec .fetchPerformed s = .next u := by
      rintro u rfl hu
      rw [exec_fetchPerformed hlow hq, hheld]
      exact congrArg _ (takeHeld_nil hu)
    refine ⟨?_, ?_, ?_⟩
    · rintro rfl
      exact hexec t rfl hheld
    · rintro rfl hmore
      exact hexec _ (receivePlanWord_more (s := t) hmore) hheld
    · rintro pl p x pr rfl hpl hw hpr hlen
      exact hexec _ ((receiveImageWord_reading (s := t) hw hpl hpr w).trans (if_neg hlen.ne)) hheld
  · obtain ⟨u, hulow, hexec⟩ := exec_performed hlow hc
    have htu : t = takeHeld [] u := by
      have := (hexec []).symm.trans ht
      exact (Host.Outcome.next.inj this).symm
    have hself : s.withHeld s.path.held = s := rfl
    refine ⟨takeHeld s.path.held u, ?_, ?_⟩
    · have hlow' : (takeHeld [] u).resetLow = false := hulow
      rw [htu, runAll_commands _ hlow' rfl hok]
      exact congrArg some (takeHeld_withHeld s.path.held [] u)
    · have := hexec s.path.held
      rwa [hself] at this
  · intro t
    refine ⟨fun h => ?_, fun h => ?_, fun h hr => ?_, fun p a h hw => ?_, fun a h hw => ?_⟩
    · exact exec_placed hlow (canPlace_contextTable hroom h) (congrArg advance (placeImage_more h)) hclose rfl
    · exact exec_placed hlow (canPlace_channelEvaluator hroom h) (congrArg advance (placeDump_more h)) hclose rfl
    · exact exec_placed hlow (canPlace_planLoader hroom h hr) (congrArg advance (placeFetch_next h)) hclose rfl
    · exact exec_placed hlow (canPlace_contextTable hroom h) (congrArg advance (placeImage_last h hw)) hclose rfl
    · exact exec_placed hlow (canPlace_channelEvaluator hroom h) (congrArg advance (placeDump_last h hw)) hclose rfl

end Sys2Proof.Machine
end
